-- ==== Sys2Proof/Word.lean ====
section
/-! DEFINITION. The word types of the CORE (00_scope.md R7, 30_encoding.md R107, R112). -/

namespace Sys2Proof

/-- A 32-bit register word, bit 0 least significant (R7, R30). -/
abbrev Word := BitVec 32

/-- A 64-bit operand or control register: `FREQ_W = 64` (R6, R107; log 16). -/
abbrev Operand := BitVec 64

/-- A 136-bit command word (R107). -/
abbrev CmdWord := BitVec 136

/-- A 73-bit response word (R112). -/
abbrev RspWord := BitVec 73

/-- The index of a register image and of a transport word: 0 to 5 (R30, R70). -/
abbrev RegIdx := Fin 6

end Sys2Proof
end

