-- ==== Sys2Proof/Syntax.lean ====
section
/-! DEFINITION. The 24 operations, one constructor per row of spec/opcode_table.json (30_encoding.md
R108, R110). -/

namespace Sys2Proof

/-- An operation of the CORE with its operands (R108), each of the width its field has. -/
inductive Instr where
  /-- `TICK dt`, one control-loop tick (R210). -/
  | tick (dt : Operand)
  /-- `SET_FREQ f` (R252). -/
  | setFreq (f : Operand)
  /-- `SET_FREQ_GCD f` (R253). -/
  | setFreqGcd (f : Operand)
  /-- `SET_FREQ_STEP f, s` (R254). -/
  | setFreqStep (f s : Operand)
  /-- `SET_REF ref, rcount, doubler, div2` (R255). -/
  | setRef (ref : Operand) (rcount : BitVec 10) (doubler div2 : Bool)
  /-- `SET_CLOCKS bscd, clkdiv` (R256). -/
  | setClocks (bscd : BitVec 8) (clkdiv : BitVec 12)
  /-- `SET_POWER power` (R257). -/
  | setPower (power : BitVec 2)
  /-- `SET_PHASE phase` (R258). -/
  | setPhase (phase : BitVec 12)
  /-- `ENABLE_OUT` (R259). -/
  | enableOut
  /-- `DISABLE_OUT` (R260). -/
  | disableOut
  /-- `LOCK_ASSIST` (R261). -/
  | lockAssist
  /-- `GLIDE_OFF` (R262). -/
  | glideOff
  /-- `GLIDE_LINEAR n` (R263). -/
  | glideLinear (n : Operand)
  /-- `GLIDE_EXP k` (R264). -/
  | glideExp (k : Operand)
  /-- `GLIDE_CONST n` (R265). -/
  | glideConst (n : Operand)
  /-- `WAVE_OFF` (R266). -/
  | waveOff
  /-- `WAVE_RAMP a` (R267). -/
  | waveRamp (a : Operand)
  /-- `WAVE_SINE a` (R268). -/
  | waveSine (a : Operand)
  /-- `WAVE_TRI a` (R269). -/
  | waveTri (a : Operand)
  /-- `WAVE_RANDOM a` (R270). -/
  | waveRandom (a : Operand)
  /-- `SET_DITHER d` (R271). -/
  | setDither (d : Operand)
  /-- `SET_PHASE_STEP n` (R272). -/
  | setPhaseStep (n : Operand)
  /-- `GET_REG i` (R273). -/
  | getReg (i : BitVec 3)
  /-- `GET_PLAN sel` (R274). -/
  | getPlan (sel : BitVec 4)
  deriving DecidableEq, Repr

end Sys2Proof
end

