-- ==== Sys2Proof/WellFormed.lean ====
section
/-! DEFINITION. Which operations are well formed: the operand sets of 30_encoding.md R111. Every other
operand is legal at every value of its field (R42). -/

namespace Sys2Proof

/-- `GET_REG` takes `i ≤ 5` (R111, R273). -/
def regSelectorLegal (i : BitVec 3) : Bool := decide (i.toNat ≤ 5)

/-- `GET_PLAN` takes `sel ≤ 11` (R111, R274). -/
def planSelectorLegal (sel : BitVec 4) : Bool := decide (sel.toNat ≤ 11)

/-- Every operand is in its legal set (R111). -/
def Instr.wellFormed : Instr → Bool
  | .tick _ => true
  | .setFreq _ => true
  | .setFreqGcd _ => true
  | .setFreqStep _ _ => true
  | .setRef _ _ _ _ => true
  | .setClocks _ _ => true
  | .setPower _ => true
  | .setPhase _ => true
  | .enableOut => true
  | .disableOut => true
  | .lockAssist => true
  | .glideOff => true
  | .glideLinear _ => true
  | .glideExp _ => true
  | .glideConst _ => true
  | .waveOff => true
  | .waveRamp _ => true
  | .waveSine _ => true
  | .waveTri _ => true
  | .waveRandom _ => true
  | .setDither _ => true
  | .setPhaseStep _ => true
  | .getReg i => regSelectorLegal i
  | .getPlan sel => planSelectorLegal sel

end Sys2Proof
end

