-- ==== Sys2Proof/Decode.lean ====
section
/-! DEFINITION. The command word (30_encoding.md R107, R108, R110, R111): its fields, the decoder,
the encoder, and the textual forms of R113. -/

namespace Sys2Proof

/-- `cmd[135:128]` (R107). -/
def opField (w : CmdWord) : BitVec 8 := w.extractLsb' 128 8

/-- `cmd[127:64]`, operand `A` (R107). -/
def aField (w : CmdWord) : Operand := w.extractLsb' 64 64

/-- `cmd[63:0]`, operand `B` (R107). -/
def bField (w : CmdWord) : Operand := w.extractLsb' 0 64

/-- Why a command word is refused (R111). All three end as `ERR_BAD_COMMAND`. -/
inductive BadCommand where
  /-- The `op` value is not in the table of R110. -/
  | illegalOpcode (op : BitVec 8)
  /-- A bit of a field that R108 marks reserved is 1. -/
  | reservedBits (op : BitVec 8)
  /-- `GET_REG` with `i > 5` or `GET_PLAN` with `sel > 11`. -/
  | operandOutOfSet (op : BitVec 8)
  deriving DecidableEq, Repr

/-- `i`, if the reserved bits of the word are zero and `i`'s operands are in their sets (R111). -/
def accept (op : BitVec 8) (reservedZero : Bool) (i : Instr) : Except BadCommand Instr :=
  if reservedZero = false then .error (.reservedBits op)
  else if i.wellFormed then .ok i
  else .error (.operandOutOfSet op)

/-- The decoder: total on every 136-bit word, by the opcode map of R110, with the operand fields of
R108. The second argument of `accept` says that the operation's reserved fields are zero. -/
def decode (w : CmdWord) : Except BadCommand Instr :=
  let op := opField w
  let a := aField w
  let b := bField w
  match op.toNat with
  | 0x00 => accept op (a == 0) (.tick b)
  | 0x01 => accept op (b == 0) (.setFreq a)
  | 0x02 => accept op (b == 0) (.setFreqGcd a)
  | 0x03 => accept op true (.setFreqStep a b)
  | 0x08 => accept op (b.extractLsb' 12 52 == 0)
      (.setRef a (b.extractLsb' 0 10) (b.getLsbD 10) (b.getLsbD 11))
  | 0x09 => accept op (a == 0 && b.extractLsb' 20 44 == 0)
      (.setClocks (b.extractLsb' 0 8) (b.extractLsb' 8 12))
  | 0x0A => accept op (a == 0 && b.extractLsb' 2 62 == 0) (.setPower (b.extractLsb' 0 2))
  | 0x0B => accept op (a == 0 && b.extractLsb' 12 52 == 0) (.setPhase (b.extractLsb' 0 12))
  | 0x0C => accept op (a == 0 && b == 0) .enableOut
  | 0x0D => accept op (a == 0 && b == 0) .disableOut
  | 0x0E => accept op (a == 0 && b == 0) .lockAssist
  | 0x10 => accept op (a == 0 && b == 0) .glideOff
  | 0x11 => accept op (b == 0) (.glideLinear a)
  | 0x12 => accept op (b == 0) (.glideExp a)
  | 0x13 => accept op (b == 0) (.glideConst a)
  | 0x18 => accept op (a == 0 && b == 0) .waveOff
  | 0x19 => accept op (b == 0) (.waveRamp a)
  | 0x1A => accept op (b == 0) (.waveSine a)
  | 0x1B => accept op (b == 0) (.waveTri a)
  | 0x1C => accept op (b == 0) (.waveRandom a)
  | 0x1D => accept op (b == 0) (.setDither a)
  | 0x1E => accept op (b == 0) (.setPhaseStep a)
  | 0x20 => accept op (a == 0 && b.extractLsb' 3 61 == 0) (.getReg (b.extractLsb' 0 3))
  | 0x21 => accept op (a == 0 && b.extractLsb' 4 60 == 0) (.getPlan (b.extractLsb' 0 4))
  | _ => .error (.illegalOpcode op)

/-- The opcode of an operation (R110). -/
def Instr.opcode : Instr → BitVec 8
  | .tick _ => 0x00
  | .setFreq _ => 0x01
  | .setFreqGcd _ => 0x02
  | .setFreqStep _ _ => 0x03
  | .setRef _ _ _ _ => 0x08
  | .setClocks _ _ => 0x09
  | .setPower _ => 0x0A
  | .setPhase _ => 0x0B
  | .enableOut => 0x0C
  | .disableOut => 0x0D
  | .lockAssist => 0x0E
  | .glideOff => 0x10
  | .glideLinear _ => 0x11
  | .glideExp _ => 0x12
  | .glideConst _ => 0x13
  | .waveOff => 0x18
  | .waveRamp _ => 0x19
  | .waveSine _ => 0x1A
  | .waveTri _ => 0x1B
  | .waveRandom _ => 0x1C
  | .setDither _ => 0x1D
  | .setPhaseStep _ => 0x1E
  | .getReg _ => 0x20
  | .getPlan _ => 0x21

/-- Operand `A` of an operation (R108); a reserved field is 0. -/
def Instr.operandA : Instr → Operand
  | .setFreq f => f
  | .setFreqGcd f => f
  | .setFreqStep f _ => f
  | .setRef ref _ _ _ => ref
  | .glideLinear n => n
  | .glideExp k => k
  | .glideConst n => n
  | .waveRamp a => a
  | .waveSine a => a
  | .waveTri a => a
  | .waveRandom a => a
  | .setDither d => d
  | .setPhaseStep n => n
  | .tick _ => 0
  | .setClocks _ _ => 0
  | .setPower _ => 0
  | .setPhase _ => 0
  | .enableOut => 0
  | .disableOut => 0
  | .lockAssist => 0
  | .glideOff => 0
  | .waveOff => 0
  | .getReg _ => 0
  | .getPlan _ => 0

/-- Operand `B` of an operation (R108); reserved bits are 0. -/
def Instr.operandB : Instr → Operand
  | .tick dt => dt
  | .setFreqStep _ s => s
  | .setRef _ rcount doubler div2 =>
      (0#52 ++ BitVec.ofBool div2 ++ BitVec.ofBool doubler ++ rcount : BitVec (52 + 1 + 1 + 10))
  | .setClocks bscd clkdiv => (0#44 ++ clkdiv ++ bscd : BitVec (44 + 12 + 8))
  | .setPower power => (0#62 ++ power : BitVec (62 + 2))
  | .setPhase phase => (0#52 ++ phase : BitVec (52 + 12))
  | .getReg i => (0#61 ++ i : BitVec (61 + 3))
  | .getPlan sel => (0#60 ++ sel : BitVec (60 + 4))
  | .setFreq _ => 0
  | .setFreqGcd _ => 0
  | .enableOut => 0
  | .disableOut => 0
  | .lockAssist => 0
  | .glideOff => 0
  | .glideLinear _ => 0
  | .glideExp _ => 0
  | .glideConst _ => 0
  | .waveOff => 0
  | .waveRamp _ => 0
  | .waveSine _ => 0
  | .waveTri _ => 0
  | .waveRandom _ => 0
  | .setDither _ => 0
  | .setPhaseStep _ => 0

/-- The encoder: the command word of an operation (R107, R108, R110). -/
def encode (i : Instr) : CmdWord :=
  (i.opcode ++ i.operandA ++ i.operandB : BitVec (8 + 64 + 64))

/-- The operation the decoder reads from a word given as a number whose lowest `nbits` bits are the
word and whose other bits are 0 (R107: the word is a number, bit 0 least significant; log 13). -/
def decodeTableWord (nbits w : Nat) : Option Instr :=
  if w % 2 ^ nbits < 2 ^ 136 then
    match decode (BitVec.ofNat 136 (w % 2 ^ nbits)) with
    | .ok i => some i
    | .error _ => none
  else none

/-! ## The textual forms of R113 -/

/-- The mnemonic of an operation (R110). -/
def Instr.mnemonic : Instr → String
  | .tick _ => "TICK"
  | .setFreq _ => "SET_FREQ"
  | .setFreqGcd _ => "SET_FREQ_GCD"
  | .setFreqStep _ _ => "SET_FREQ_STEP"
  | .setRef _ _ _ _ => "SET_REF"
  | .setClocks _ _ => "SET_CLOCKS"
  | .setPower _ => "SET_POWER"
  | .setPhase _ => "SET_PHASE"
  | .enableOut => "ENABLE_OUT"
  | .disableOut => "DISABLE_OUT"
  | .lockAssist => "LOCK_ASSIST"
  | .glideOff => "GLIDE_OFF"
  | .glideLinear _ => "GLIDE_LINEAR"
  | .glideExp _ => "GLIDE_EXP"
  | .glideConst _ => "GLIDE_CONST"
  | .waveOff => "WAVE_OFF"
  | .waveRamp _ => "WAVE_RAMP"
  | .waveSine _ => "WAVE_SINE"
  | .waveTri _ => "WAVE_TRI"
  | .waveRandom _ => "WAVE_RANDOM"
  | .setDither _ => "SET_DITHER"
  | .setPhaseStep _ => "SET_PHASE_STEP"
  | .getReg _ => "GET_REG"
  | .getPlan _ => "GET_PLAN"

/-- The operands of an operation with their names, in the order of R108. -/
def Instr.namedOperands : Instr → List (String × Nat)
  | .tick dt => [("dt", dt.toNat)]
  | .setFreq f => [("f", f.toNat)]
  | .setFreqGcd f => [("f", f.toNat)]
  | .setFreqStep f s => [("f", f.toNat), ("s", s.toNat)]
  | .setRef ref rcount doubler div2 =>
      [("ref", ref.toNat), ("rcount", rcount.toNat), ("doubler", doubler.toNat), ("div2", div2.toNat)]
  | .setClocks bscd clkdiv => [("bscd", bscd.toNat), ("clkdiv", clkdiv.toNat)]
  | .setPower power => [("power", power.toNat)]
  | .setPhase phase => [("phase", phase.toNat)]
  | .enableOut => []
  | .disableOut => []
  | .lockAssist => []
  | .glideOff => []
  | .glideLinear n => [("n", n.toNat)]
  | .glideExp k => [("k", k.toNat)]
  | .glideConst n => [("n", n.toNat)]
  | .waveOff => []
  | .waveRamp a => [("a", a.toNat)]
  | .waveSine a => [("a", a.toNat)]
  | .waveTri a => [("a", a.toNat)]
  | .waveRandom a => [("a", a.toNat)]
  | .setDither d => [("d", d.toNat)]
  | .setPhaseStep n => [("n", n.toNat)]
  | .getReg i => [("i", i.toNat)]
  | .getPlan sel => [("sel", sel.toNat)]

/-- The assembly text of an operation: mnemonic, then named decimal operands (R113, without the
optional digit separators). -/
def Instr.assembly (i : Instr) : String :=
  match i.namedOperands with
  | [] => i.mnemonic
  | ops => i.mnemonic ++ " " ++ ", ".intercalate (ops.map fun o => o.1 ++ "=" ++ toString o.2)

/-- One upper-case hexadecimal digit. -/
def hexDigit (d : BitVec 4) : Char :=
  if d.toNat < 10 then Char.ofNat (48 + d.toNat) else Char.ofNat (55 + d.toNat)

/-- A command word as 34 hexadecimal digits, `op` first (R113). -/
def hexWord (w : CmdWord) : String :=
  String.ofList ((List.range 34).map fun k => hexDigit (w.extractLsb' (4 * (33 - k)) 4))

end Sys2Proof
end

