-- ==== Sys2Proof/Config.lean ====
section
/-! DEFINITION. The constants the source fixes (00_scope.md R5), the parameters it leaves open
(R6), and the free values (values the spec does not state; each is an opaque constant). -/

namespace Sys2Proof.Config

/-! ## Constants of R5 -/

/-- `F_OUT_MIN`, lowest legal requested output frequency in Hz (R5). -/
def fOutMin : Nat := 34385000
/-- `VCO_REF`, numerator of the output-divider search (R5). -/
def vcoRef : Nat := 2200000000
/-- `DIV_CAP`, second bound of the output-divider search (R5). -/
def divCap : Nat := 64
/-- `PRESC_THRESH`, VCO frequency above which the high prescaler is used (R5). -/
def prescThresh : Nat := 3600000000
/-- `MOD_MIN` (R5). -/
def modMin : Nat := 2
/-- `MOD_MAX` (R5). -/
def modMax : Nat := 4095
/-- `NINT_MIN_LO`, lowest legal N_Int with the prescaler disabled (R5). -/
def nintMinLo : Nat := 23
/-- `NINT_MIN_HI`, lowest legal N_Int with the prescaler enabled (R5). -/
def nintMinHi : Nat := 75
/-- `NINT_MAX` (R5). -/
def nintMax : Nat := 65535
/-- `REG_W`, width of a BitfieldRegister in bits (R5). -/
def regW : Nat := 32
/-- `N_REGS`, number of device registers (R5). -/
def nRegs : Nat := 6
/-- `POWER_MAX`, the highest output power level (R5): the 2-bit field admits no more (R108). -/
def powerMax : Nat := 3
/-- `PHASE_MAX`, the highest output phase value (R5): the 12-bit field admits no more (R108). -/
def phaseMax : Nat := 4095
/-- `CP_CODE`, charge-pump code packed into register 2 (R5). -/
def cpCode : Nat := 7
/-- `MUX_SEL`, digital lock detect, packed into register 2 (R5). -/
def muxSel : Nat := 6
/-- `R5_RESERVED`, the reserved field of register 5 (R5). -/
def r5Reserved : Nat := 3
/-- `LD_PIN_MODE`, digital lock-detect pin mode, packed into register 5 (R5). -/
def ldPinMode : Nat := 1

/-- The spans `(start, length)` that `Pack` writes in register `i` (R100 to R106). R117 forbids a
lock-assist bit inside one of them. -/
def packedSpans (i : RegIdx) : List (Nat × Nat) :=
  match i with
  | 0 => [(0, 3), (3, 12), (15, 16)]
  | 1 => [(0, 3), (3, 12), (15, 12), (27, 1)]
  | 2 => [(0, 3), (6, 1), (7, 1), (8, 1), (9, 4), (14, 10), (24, 1), (25, 1), (26, 3)]
  | 3 => [(0, 3), (3, 12), (21, 1), (22, 1), (23, 1)]
  | 4 => [(0, 3), (3, 2), (5, 1), (11, 1), (12, 8), (20, 3), (23, 1)]
  | 5 => [(0, 3), (19, 2), (22, 2)]

/-- Whether `Pack` writes bit `b` of register `i` (R117). -/
def packsBit (i : RegIdx) (b : Nat) : Bool :=
  (packedSpans i).any fun sp => decide (sp.1 ≤ b) && decide (b < sp.1 + sp.2)

/-! ## Free values

None has a body, so no proof can see which value it is. -/

/-- DESIGN CHOICE (log 2), safe: the transport's answer to the `n`-th write, where the environment
listed none in advance (R70, U6). -/
opaque xportAnswer : Nat → Bool
/-- DESIGN CHOICE (log 3), safe: the `n`-th raw draw of the random source, where the environment
listed none in advance (R73, U3). -/
opaque freeDraw : Nat → Int
/-- DESIGN CHOICE (log 6), safe: the first entry of TABLE at reset (R6, U4: no default). -/
opaque tableFirst : Int
/-- DESIGN CHOICE (log 6), safe: the other entries of TABLE at reset (R6, U4: no default). -/
opaque tableRest : List Int
/-- DESIGN CHOICE (log 6), safe: `TABLE_SCALE − 1` at reset (R6, U4: no default). -/
opaque tableScalePred : Nat
/-- DESIGN CHOICE (log 7), safe: any other total function `TRI_OFFSET(phase, period)`, one for each
number (R6, R216, U9). -/
opaque triOffset : Nat → Nat → Nat → Int
/-- DESIGN CHOICE (log 8), safe: `tdiv(a, 0)`, which R8 does not define. -/
opaque tdivByZero : Int → Int
/-- DESIGN CHOICE (log 8), safe: `a mod 0`, which R8 does not define. -/
opaque modByZero : Nat → Nat
/-- DESIGN CHOICE (log 8), safe: a table entry at an index `≥ TABLE_LEN`, which R71 does not define. -/
opaque tableBeyond : Nat → Int
/-- DESIGN CHOICE (log 9), safe: what the 64-bit `g.const_mag` holds when the magnitude does not fit
(R32 gives the width, R218 the value, no rule the truncation). -/
opaque constMagOverflow : Int → Operand
/-- DESIGN CHOICE (log 22), safe: what the 64-bit `cfg.step` holds of a plan's step that does not fit
(R31 gives the width, R6 and R72 bound no allowed step, no rule the truncation). -/
opaque stepOverflow : Nat → Operand

end Sys2Proof.Config

namespace Sys2Proof

/-! ## Parameters of R6 -/

/-- Which `TRI_OFFSET` a machine has (R6, R216): the spec's default, or any other total function. -/
inductive TriOffset where
  /-- `2 × min(q, P − q)` with `q = phase mod P`. -/
  | standard
  /-- The function `Config.triOffset id`, of which nothing is known. -/
  | other (id : Nat)
  deriving DecidableEq, Repr

/-- The parameters of R6 as values, each with the spec's name. -/
structure ParamValues where
  /-- `F_OUT_MAX` in Hz. -/
  fOutMax : Nat
  /-- `PFD_MIN` in Hz. -/
  pfdMin : Rat
  /-- `PFD_MAX` in Hz. -/
  pfdMax : Rat
  /-- `ALLOWED_STEPS` in Hz (R72). -/
  steps : List Nat
  /-- `TABLE`; its length is `TABLE_LEN` (R71). -/
  table : List Int
  /-- `TABLE_SCALE`. -/
  tableScale : Nat
  /-- `TRI_OFFSET`. -/
  tri : TriOffset
  /-- `LOCK_ASSIST_REG` (R117). -/
  lockAssistReg : RegIdx
  /-- `LOCK_ASSIST_BIT` (R117). -/
  lockAssistBit : Fin 32
  /-- `TICK_UNIT`, ticks of `dt` per second. -/
  tickUnit : Nat
  deriving DecidableEq, Repr

/-- `TABLE_LEN` (R6, R71). -/
def ParamValues.tableLen (v : ParamValues) : Nat := v.table.length

/-- The constraints R6 and R117 put on the parameters. DEDUCED (log 16): `TICK_UNIT ≥ 1`. -/
def ParamValues.valid (v : ParamValues) : Bool :=
  decide (Config.fOutMin ≤ v.fOutMax)
    && decide (0 < v.pfdMin) && decide (v.pfdMin ≤ v.pfdMax)
    && !v.steps.isEmpty && decide (v.steps.Pairwise (· < ·))
    && v.steps.all (fun s => decide (0 < s))
    && !v.table.isEmpty && decide (1 ≤ v.tableScale)
    && decide (3 ≤ v.lockAssistBit.val)
    && !Config.packsBit v.lockAssistReg v.lockAssistBit.val
    && decide (1 ≤ v.tickUnit)

/-- A legal choice of the parameters: the values with the proof that they meet their constraints, so
that an illegal one cannot be built. -/
structure Params extends ParamValues where
  legal : toParamValues.valid = true
  deriving DecidableEq, Repr

/-- The default `ALLOWED_STEPS` of R6. -/
def Config.standardSteps : List Nat :=
  [1, 5, 8, 10, 20, 50, 100, 500, 1000, 2500, 5000, 10000, 25000, 50000, 100000, 500000]

/-- The parameters at reset (log 5): R6's defaults, and free values for TABLE and TABLE_SCALE, which
have none (log 6). PRESUMED, unsafe: `PFD_MIN`, `PFD_MAX`, `LOCK_ASSIST_REG` and `LOCK_ASSIST_BIT` are
the spec's own "general knowledge" (G1, G2). -/
def Params.standard : Params where
  fOutMax := 4400000000
  pfdMin := 125000
  pfdMax := 32000000
  steps := Config.standardSteps
  table := Config.tableFirst :: Config.tableRest
  tableScale := Config.tableScalePred + 1
  tri := .standard
  lockAssistReg := 3
  lockAssistBit := 18
  tickUnit := 1000000
  legal := by
    have h : decide (1 ≤ Config.tableScalePred + 1) = true := by simp
    simp only [ParamValues.valid, h]
    decide +kernel

end Sys2Proof
end

