-- ==== Sys2Proof/Machine/Arith.lean ====
section
/-! DEFINITION. The arithmetic primitives of 00_scope.md R8. -/

namespace Sys2Proof.Machine

/-- `floor(q)` for `q ≥ 0`, as a natural (R8). -/
def floorNat (q : Rat) : Nat := q.floor.toNat

/-- `rhu(q) = floor(q + 1/2)`, round half up, used only on `q ≥ 0` (R8). -/
def rhu (q : Rat) : Nat := floorNat (q + 1 / 2)

/-- `tdiv(a, b)`, integer division truncating toward zero (R8). R8 gives it no value for `b = 0`: a
free value (log 8). -/
def tdiv (a b : Int) : Int :=
  if b = 0 then Config.tdivByZero a
  else a.sign * b.sign * ((a.natAbs / b.natAbs : Nat) : Int)

/-- `a mod b` on naturals (R8). R8 gives it no value for `b = 0`: a free value (log 8). -/
def natMod (a b : Nat) : Nat :=
  if b = 0 then Config.modByZero a else a % b

end Sys2Proof.Machine
end

