-- ==== Sys2Proof/Machine/Bitfield.lean ====
section
/-! DEFINITION. The BitfieldRegister primitives (40_bitfield.md R140 to R144). -/

namespace Sys2Proof.Machine

/-- `SetField(w, start, length, value)` (R142). It takes the proof of the span precondition of R144, so
a call outside the word cannot be written (log 10). -/
def setField (w : Word) (start length value : Nat) (_span : start + length ≤ 32 := by decide) : Word :=
  let mask := 2 ^ length - 1
  let v := value % 2 ^ length
  (w &&& ~~~BitVec.ofNat 32 (mask * 2 ^ start)) ||| BitVec.ofNat 32 (v * 2 ^ start)

/-- `GetField(w, start, length)` (R143), with the span precondition of R144. -/
def getField (w : Word) (start length : Nat) (_span : start + length ≤ 32 := by decide) : Nat :=
  w.toNat / 2 ^ start % 2 ^ length

end Sys2Proof.Machine
end

