-- ==== Sys2Proof/Machine/State.lean ====
section
/-! DEFINITION. The state of the CORE as plain data (10_state.md R30 to R38), the environment's side
of it (00_scope.md R10), the outcome types and the reset state. -/

namespace Sys2Proof.Machine

/-- DESIGN CHOICE (log 14), safe: no operation stops the machine ("No failure is fatal, none is
sticky", 60_exceptions.md R294), so there is no fault. The failures of R290 are `Failure`, and end in
a next state. -/
inductive Fault where
  deriving DecidableEq, Repr

/-- Why the model has no meaning for an operation. -/
inductive Refusal where
  /-- Raised by an arm of `exec` whose operation has no meaning yet. Safe: the model stops where the
  hardware goes on. -/
  | notModelled (mnemonic : String)
  deriving DecidableEq, Repr

/-- The nine failure codes of 60_exceptions.md R290. -/
inductive Failure where
  /-- Code 1, `ERR_FREQ_RANGE`. -/
  | freqRange
  /-- Code 2, `ERR_PFD_RANGE`. -/
  | pfdRange
  /-- Code 3, `ERR_MOD_RANGE`. -/
  | modRange
  /-- Code 4, `ERR_FRAC_RANGE`. -/
  | fracRange
  /-- Code 5, `ERR_NINT_RANGE`. -/
  | nintRange
  /-- Code 6, `ERR_NO_STEP`. -/
  | noStep
  /-- Code 7, `ERR_TRANSPORT`. -/
  | transport
  /-- Code 8, `ERR_BAD_COMMAND`. -/
  | badCommand
  /-- Code 9, `ERR_NO_PLAN`. -/
  | noPlan
  deriving DecidableEq, Repr

/-- The `status` of a response (R290): `OK` or a failure. -/
inductive Status where
  | ok
  | failed (e : Failure)
  deriving DecidableEq, Repr

/-- `cfg.step_mode` (R31): how a retune chooses its channel step. -/
inductive StepMode where
  /-- Code 0, set by `SET_FREQ`. -/
  | resolve
  /-- Code 1, set by `SET_FREQ_GCD`. -/
  | resolveGcd
  /-- Code 2, set by `SET_FREQ_STEP`. -/
  | direct
  deriving DecidableEq, Repr

/-- `g.glide_law` (R32). -/
inductive GlideLaw where
  /-- Code 0. -/
  | none
  /-- Code 1. -/
  | linear
  /-- Code 2, exponential. -/
  | exp
  /-- Code 3, constant rate. -/
  | const
  deriving DecidableEq, Repr

/-- `g.wave_law` (R32). -/
inductive WaveLaw where
  /-- Code 0. -/
  | none
  /-- Code 1, linear ramp. -/
  | ramp
  /-- Code 2. -/
  | sine
  /-- Code 3, triangle. -/
  | tri
  /-- Code 4, random step. -/
  | random
  deriving DecidableEq, Repr

/-- SynthesizerConfig, the group `cfg` (R31). -/
structure Cfg where
  /-- Reference frequency in Hz. -/
  ref : Operand
  /-- Reference-doubler flag. -/
  doubler : Bool
  /-- Reference-divide-by-2 flag. -/
  div2 : Bool
  /-- R-counter divisor. -/
  rcount : BitVec 10
  /-- Band-select-clock divisor. -/
  bscd : BitVec 8
  /-- Clock divider. -/
  clkdiv : BitVec 12
  /-- Output power level. -/
  power : BitVec 2
  /-- Currently selected channel step in Hz. -/
  step : Operand
  /-- Output phase value. -/
  phase : BitVec 12
  /-- `cfg.step_mode`. -/
  stepMode : StepMode
  deriving DecidableEq, Repr

/-- GlideState, the group `g` (R32). The four frequencies are integers in Hz that no rule wraps. -/
structure Glide where
  current : Int
  /-- `g.glide_start`. -/
  glideStart : Int
  setpoint : Int
  /-- The frequency last commanded by a `SET_FREQ*` (R251). -/
  base : Int
  glideLaw : GlideLaw
  /-- `glideTicks`, `exponentialConstant` or `constantGlideTicks`, by the law. -/
  glideParam : Operand
  waveLaw : WaveLaw
  /-- Amplitude, or period of the triangle law. -/
  waveParam : Operand
  /-- Phase accumulator, `< TABLE_LEN`. -/
  phaseAcc : Nat
  phaseStep : Operand
  /-- Constant-rate step magnitude in Hz per second. -/
  constMag : Operand
  /-- Random-dither amplitude in Hz. -/
  dither : Operand
  /-- The `locked` flag, also the output level (R35). -/
  locked : Bool
  deriving DecidableEq, Repr

/-- A FrequencyPlan, the `p` of `Ok(p)` (R33). -/
structure Plan where
  nint : Nat
  frac : Nat
  mod : Nat
  rfdivsel : Nat
  div : Nat
  presc : Bool
  /-- Phase-detector frequency, an exact rational. -/
  pfd : Rat
  /-- Achieved frequency, an exact rational. -/
  achieved : Rat
  mismatch : Bool
  step : Nat
  deriving DecidableEq, Repr

/-- The result register `plan` (R33). -/
inductive PlanReg where
  /-- No retune since reset. -/
  | none
  | failed (reason : Failure)
  | ok (p : Plan)
  deriving DecidableEq, Repr

/-- The response of an operation (30_encoding.md R112). -/
structure Response where
  status : Status
  mismatch : Bool
  data : Operand
  deriving DecidableEq, Repr

/-- One entry of the write log: `XportWrite(i, v)` answered `ok` (R36, R70). -/
structure XportEntry where
  idx : RegIdx
  val : Word
  ok : Bool
  deriving DecidableEq, Repr

/-- What the environment presents to the CORE (R10, R320). -/
inductive EnvEvent where
  /-- A command word (R107). -/
  | command (w : CmdWord)
  /-- The reset input (R320). -/
  | reset
  deriving DecidableEq, Repr

/-- The environment's side of a step (R10, R37): the MODEL's own fields, not the spec's (logs 1 to 3). -/
structure Env where
  /-- What is presented, oldest first. -/
  events : List EnvEvent
  /-- Transport answers chosen in advance, oldest first; where there is none left, `Config.xportAnswer`. -/
  oks : List Bool
  /-- How many transport answers were asked, never reset. -/
  asked : Nat
  /-- Random draws chosen in advance, oldest first; where there is none left, `Config.freeDraw`. -/
  draws : List Int
  /-- How many draws were made, never reset. -/
  drawn : Nat
  deriving DecidableEq, Repr

/-- The machine's state. -/
structure State where
  /-- The register images `R[0]` to `R[5]` (R30). -/
  regs : Vector Word 6
  /-- SynthesizerConfig (R31). -/
  cfg : Cfg
  /-- GlideState (R32). -/
  g : Glide
  /-- The result register (R33). -/
  plan : PlanReg
  /-- The frequency of the last commit in which all six writes succeeded (R34). -/
  committed : Option Nat
  /-- The response word of the last operation (R112; log 11). -/
  rsp : Response
  /-- The transport writes since reset, in the order issued (R36). -/
  xlog : List XportEntry
  /-- The parameters of R6: an argument of the step, not the spec's state (R37; log 4). -/
  par : Params
  /-- The environment's side (logs 1 to 3). -/
  env : Env
  deriving DecidableEq, Repr

/-- The machine right after reset (R38, R320). The environment presents nothing (log 1); the
parameters are those of log 5. -/
def State.reset : State where
  regs := #v[0, 0, 0, 0, 0, 0]
  cfg :=
    { ref := 0, doubler := false, div2 := false, rcount := 0, bscd := 0, clkdiv := 0, power := 0
      step := 0, phase := 0, stepMode := .resolve }
  g :=
    { current := 0, glideStart := 0, setpoint := 0, base := 0, glideLaw := .none, glideParam := 0
      waveLaw := .none, waveParam := 0, phaseAcc := 0, phaseStep := 1, constMag := 0, dither := 0
      locked := false }
  plan := .none
  committed := none
  rsp := { status := .ok, mismatch := false, data := 0 }
  xlog := []
  par := Params.standard
  env := { events := [], oks := [], asked := 0, draws := [], drawn := 0 }

end Sys2Proof.Machine
end

