-- ==== Sys2Proof/Machine/Operands.lean ====
section
/-! DEFINITION. Operand forms (30_encoding.md R108, R109), the selectors of the queries (R273, R274),
and the codes of the enumerated fields and of the response (R31, R32, R112, R290). -/

namespace Sys2Proof.Machine

/-- An operand used zero-extended, as an integer: all operands are unsigned (R108). -/
def unsigned {n : Nat} (v : BitVec n) : Int := (v.toNat : Int)

/-- The register that `GET_REG i` names; none for `i` outside 0 to 5 (R111, R273). -/
def regSelector (i : BitVec 3) : Option RegIdx :=
  if h : i.toNat < 6 then some ⟨i.toNat, h⟩ else none

/-- The plan field that `GET_PLAN sel` names, as an exact integer; none for `sel` outside 0 to 11
(R111, R274). A rational's numerator and denominator are those of its lowest terms. -/
def planField (p : Plan) (sel : BitVec 4) : Option Int :=
  match sel.toNat with
  | 0 => some p.nint
  | 1 => some p.frac
  | 2 => some p.mod
  | 3 => some p.rfdivsel
  | 4 => some p.div
  | 5 => some p.presc.toNat
  | 6 => some p.pfd.num
  | 7 => some p.pfd.den
  | 8 => some p.achieved.num
  | 9 => some p.achieved.den
  | 10 => some p.mismatch.toNat
  | 11 => some p.step
  | _ => none

/-- The code of a failure (R290). -/
def Failure.code : Failure → BitVec 8
  | .freqRange => 1
  | .pfdRange => 2
  | .modRange => 3
  | .fracRange => 4
  | .nintRange => 5
  | .noStep => 6
  | .transport => 7
  | .badCommand => 8
  | .noPlan => 9

/-- The code of a status (R290). -/
def Status.code : Status → BitVec 8
  | .ok => 0
  | .failed e => e.code

/-- The 73-bit response word: `status`, `mismatch`, `data` (R112). -/
def Response.word (r : Response) : RspWord :=
  (r.status.code ++ BitVec.ofBool r.mismatch ++ r.data : BitVec (8 + 1 + 64))

/-- The 2-bit code of `cfg.step_mode` (R31). -/
def StepMode.code : StepMode → BitVec 2
  | .resolve => 0
  | .resolveGcd => 1
  | .direct => 2

/-- The 2-bit code of `g.glide_law` (R32). -/
def GlideLaw.code : GlideLaw → BitVec 2
  | .none => 0
  | .linear => 1
  | .exp => 2
  | .const => 3

/-- The 3-bit code of `g.wave_law` (R32). -/
def WaveLaw.code : WaveLaw → BitVec 3
  | .none => 0
  | .ramp => 1
  | .sine => 2
  | .tri => 3
  | .random => 4

/-- The output level `locked` is the flag `g.locked` (R35, R36). -/
def State.lockedOut (s : State) : Bool := s.g.locked

end Sys2Proof.Machine
end

