-- ==== Sys2Proof/Machine/Ops.lean ====
section
/-! DEFINITION. The named operations over the state: updates, register images, the two ways an
operation ends (60_exceptions.md R290 to R293), the transport, the random source, the table, the
commit (20_memory.md R70 to R81), the environment's queue and the reset event. -/

namespace Sys2Proof.Machine

/-! ## Updates, one per field a step writes -/

def State.setRegs (s : State) (v : Vector Word 6) : State := { s with regs := v }
def State.setCfg (s : State) (v : Cfg) : State := { s with cfg := v }
def State.setG (s : State) (v : Glide) : State := { s with g := v }
def State.setPlan (s : State) (v : PlanReg) : State := { s with plan := v }
def State.setCommitted (s : State) (v : Option Nat) : State := { s with committed := v }
def State.setRsp (s : State) (v : Response) : State := { s with rsp := v }
def State.setXlog (s : State) (v : List XportEntry) : State := { s with xlog := v }
def State.setEnv (s : State) (v : Env) : State := { s with env := v }

/-! ## Register images -/

/-- `Get(i)` (R141). -/
def State.readReg (s : State) (i : RegIdx) : Word := s.regs[i]

/-- `Set(i, value)` (R141). -/
def State.writeReg (s : State) (i : RegIdx) (v : Word) : State :=
  s.setRegs (s.regs.set i.val v i.isLt)

/-- `R[i] <- SetField(R[i], start, length, value)` (R142). -/
def State.writeField (s : State) (i : RegIdx) (start length value : Nat)
    (span : start + length ≤ 32 := by decide) : State :=
  s.writeReg i (setField (s.readReg i) start length value span)

/-! ## How an operation ends -/

/-- The operation ends with this status, `mismatch` bit and data (R112, R250). -/
def State.endWith (s : State) (status : Status) (mismatch : Bool := false) (data : Operand := 0) : State :=
  s.setRsp { status := status, mismatch := mismatch, data := data }

/-- The operation ends with `status = OK` (R112, R290). -/
def State.succeed (s : State) (mismatch : Bool := false) (data : Operand := 0) : State :=
  s.endWith .ok mismatch data

/-- TAKING A FAILURE, the CORE's one form of exception (R290, R292, R293): the operation ends with the
failure's code, `mismatch = 0` and `data = 0`; the state changes made so far stand. Nothing is
vectored or saved, and there is no return (R298). -/
def State.failWith (s : State) (e : Failure) : State := s.endWith (.failed e)

/-! ## The transport (R70) -/

/-- The transport's next answer: the environment's, or a free value (log 2). -/
def State.nextOk (s : State) : Bool :=
  match s.env.oks with
  | [] => Config.xportAnswer s.env.asked
  | b :: _ => b

/-- `XportWrite(i, v) → ok` (R70): the answer, and the state with the call appended to `xlog`. -/
def xportWrite (i : RegIdx) (v : Word) (s : State) : Bool × State :=
  (s.nextOk,
    (s.setXlog (s.xlog ++ [{ idx := i, val := v, ok := s.nextOk }])).setEnv
      { s.env with oks := s.env.oks.tail, asked := s.env.asked + 1 })

/-- Writes the images of the listed registers in order, stopping at the first failed write (R81). -/
def commitFrom : List RegIdx → State → Bool × State
  | [], s => (true, s)
  | i :: rest, s =>
    match xportWrite i (s.readReg i) s with
    | (true, s') => commitFrom rest s'
    | (false, s') => (false, s')

/-- The commit order: R5, R4, R3, R2, R1, R0 (R81). -/
def commitOrder : List RegIdx := [5, 4, 3, 2, 1, 0]

/-- `Commit() → ok` (R81, R168). -/
def commit (s : State) : Bool × State := commitFrom commitOrder s

/-- `LockAssistWrite() → ok` (R230). -/
def lockAssistWrite (s : State) : Bool × State :=
  let i := s.par.lockAssistReg
  let s := s.writeField i 0 3 i.val
  let s := s.writeField i s.par.lockAssistBit.val 1 1 s.par.lockAssistBit.isLt
  xportWrite i (s.readReg i) s

/-! ## The random source (R73) and the table (R71) -/

/-- The random source's next raw draw: the environment's, or a free value (log 3). -/
def State.nextDraw (s : State) : Int :=
  match s.env.draws with
  | [] => Config.freeDraw s.env.drawn
  | r :: _ => r

/-- `r` itself where `lo ≤ r ≤ hi`, and some integer of that range for every other `r` (R73; log 3). -/
def intoRange (lo hi r : Int) : Int := lo + (r - lo) % (hi - lo + 1)

/-- `Rand(lo, hi) → r` (R73): any integer with `lo ≤ r ≤ hi`. -/
def rand (lo hi : Int) (s : State) : Int × State :=
  (intoRange lo hi s.nextDraw,
    s.setEnv { s.env with draws := s.env.draws.tail, drawn := s.env.drawn + 1 })

/-- `TableRead(i) = TABLE[i]` (R71). R71 gives it no value for `i ≥ TABLE_LEN`, which no tick asks for:
a free value (log 8). -/
def tableRead (p : Params) (i : Nat) : Int :=
  match p.table[i]? with
  | some x => x
  | none => Config.tableBeyond i

/-! ## The environment's queue and the reset event -/

/-- What the environment presents next, and the state without it (R10; log 1). -/
def State.nextEvent (s : State) : Option (EnvEvent × State) :=
  match s.env.events with
  | [] => none
  | e :: rest => some (e, s.setEnv { s.env with events := rest })

/-- The reset event (R320, R321): every piece of the spec's state takes its reset value, no transport
write is issued; the parameters do not change, and what the environment presents is its own. -/
def State.applyReset (s : State) : State :=
  { State.reset with par := s.par, env := s.env }

end Sys2Proof.Machine
end

