-- ==== Sys2Proof/Machine/Flags.lean ====
section
/-! DEFINITION. The CORE's flags (10_state.md R35) and the one-bit values the engine computes
(41_divider_engine.md R153, R158; 30_encoding.md R100). -/

namespace Sys2Proof.Machine

/-- `z`: 1 if `p.frac = 0` and 0 otherwise (R100). -/
def zFlag (p : Plan) : Nat := if p.frac = 0 then 1 else 0

/-- `presc`: the VCO frequency `f × div` strictly exceeds 3.6 GHz (R153). -/
def prescFlag (f div : Nat) : Bool := decide (Config.prescThresh < f * div)

/-- `mismatch`: the achieved frequency differs from the requested one (R158). -/
def mismatchFlag (achieved : Rat) (f : Nat) : Bool := decide (achieved ≠ (f : Rat))

/-- `g.locked <- 0` (R228, R251). -/
def State.clearLocked (s : State) : State := s.setG { s.g with locked := false }

/-- `g.locked <- 1` (R229, R261). -/
def State.setLocked (s : State) : State := s.setG { s.g with locked := true }

/-- No waveform law and no glide law are active (R211, R251). -/
def State.idle (s : State) : Bool := decide (s.g.glideLaw = .none ∧ s.g.waveLaw = .none)

end Sys2Proof.Machine
end

