-- ==== Sys2Proof/Machine/Engine.lean ====
section
/-! DEFINITION. The PLL Divider Engine, steps 1 to 9 (41_divider_engine.md R150 to R161): `EngineEval`,
a function of its operands. -/

namespace Sys2Proof.Machine

/-- Step 1 (R151): `F_OUT_MIN ≤ f ≤ F_OUT_MAX`. -/
def freqInRange (par : Params) (f : Int) : Bool :=
  decide ((Config.fOutMin : Int) ≤ f ∧ f ≤ (par.fOutMax : Int))

/-- The loop of step 2 (R152), from `div` and `rfdivsel`, with at most `fuel` doublings. -/
def dividerLoop (ratio : Nat) : Nat → Nat → Nat → Nat × Nat
  | 0, div, rfdivsel => (div, rfdivsel)
  | fuel + 1, div, rfdivsel =>
    if div ≤ ratio ∧ div ≤ Config.divCap then dividerLoop ratio fuel (2 * div) (rfdivsel + 1)
    else (div, rfdivsel)

/-- Step 2 (R152): `(div, rfdivsel)`. The bound `div ≤ 64` ends the loop after at most 7 doublings. -/
def outputDivider (f : Nat) : Nat × Nat := dividerLoop (Config.vcoRef / f) 7 1 0

/-- Step 4 (R154): the phase-detector frequency, or `ERR_PFD_RANGE`. Also the test of `SET_REF` (R255)
and of `Retune` (R197). -/
def phaseDetector (par : Params) (ref : Operand) (rcount : BitVec 10) (doubler div2 : Bool) :
    Except Failure Rat :=
  if rcount = 0 then .error .pfdRange
  else
    let pfd : Rat :=
      ((ref.toNat * (1 + doubler.toNat) : Nat) : Rat) / ((rcount.toNat * (1 + div2.toNat) : Nat) : Rat)
    if pfd < par.pfdMin ∨ par.pfdMax < pfd then .error .pfdRange else .ok pfd

/-- Step 4 on the configuration (R154). -/
def phaseDetectorOf (par : Params) (c : Cfg) : Except Failure Rat :=
  phaseDetector par c.ref c.rcount c.doubler c.div2

/-- Step 7 (R157): reduction of `(frac0, mod0)` by their greatest common divisor. -/
def reduceFraction (frac0 mod0 : Nat) : Nat × Nat :=
  if frac0 ≠ 0 then (frac0 / Nat.gcd frac0 mod0, mod0 / Nat.gcd frac0 mod0) else (0, mod0)

/-- Step 8 (R158): the achieved frequency. -/
def achievedFreq (pfd : Rat) (nint frac mod div : Nat) : Rat :=
  if frac = 0 then pfd * nint / div else pfd * (nint + (frac : Rat) / mod) / div

/-- Steps 2, 3 and 5 to 8 (R152, R153, R155 to R158) for `f ≥ 1`, `pfd > 0` and a channel step `s ≥ 1`. -/
def enginePlan (pfd : Rat) (f s : Nat) : Plan :=
  let dr := outputDivider f
  let n : Rat := ((f * dr.1 : Nat) : Rat) / pfd
  let nint := floorNat n
  let mod0 := rhu (pfd / s)
  let frac0 := rhu ((n - nint) * mod0)
  let fm := reduceFraction frac0 mod0
  let achieved := achievedFreq pfd nint fm.1 fm.2 dr.1
  { nint := nint, frac := fm.1, mod := fm.2, rfdivsel := dr.2, div := dr.1
    presc := prescFlag f dr.1, pfd := pfd, achieved := achieved
    mismatch := mismatchFlag achieved f, step := s }

/-- The lowest legal `nint`, by the prescaler (R159). -/
def nintMin (presc : Bool) : Nat := if presc then Config.nintMinHi else Config.nintMinLo

/-- Step 9 (R159): the three range checks, in order. -/
def validatePlan (p : Plan) : Except Failure Plan :=
  if p.mod < Config.modMin ∨ Config.modMax < p.mod then .error .modRange
  else if p.mod - 1 < p.frac then .error .fracRange
  else if p.nint < nintMin p.presc ∨ Config.nintMax < p.nint then .error .nintRange
  else .ok p

/-- `EngineEval(cfg, f, s) → Ok(p) | Fail(reason)` (R161), with its checks in step order (R160). -/
def engineEval (par : Params) (c : Cfg) (f : Int) (s : Nat) : Except Failure Plan :=
  if freqInRange par f = false then .error .freqRange
  else
    match phaseDetectorOf par c with
    | .error e => .error e
    | .ok pfd =>
      if s = 0 then .error .modRange
      else validatePlan (enginePlan pfd f.toNat s)

end Sys2Proof.Machine
end

