-- ==== Sys2Proof/Machine/Configuration.lean ====
section
/-! DEFINITION. The configuration operations: `SET_REF`, `SET_CLOCKS`, `SET_POWER`, `SET_PHASE`
(44_controller_ops.md R255 to R258). None makes a transport write. -/

namespace Sys2Proof.Machine

/-- `SET_REF ref, rcount, doubler, div2` (R255): stores nothing unless the phase-detector frequency is
in range. -/
def execSetRef (ref : Operand) (rcount : BitVec 10) (doubler div2 : Bool) (s : State) :
    Host.Outcome State Fault Refusal :=
  .next <|
    match phaseDetector s.par ref rcount doubler div2 with
    | .error e => s.failWith e
    | .ok _ =>
      (s.setCfg { s.cfg with ref := ref, rcount := rcount, doubler := doubler, div2 := div2 }).succeed

/-- `SET_CLOCKS bscd, clkdiv` (R256). -/
def execSetClocks (bscd : BitVec 8) (clkdiv : BitVec 12) (s : State) :
    Host.Outcome State Fault Refusal :=
  .next (s.setCfg { s.cfg with bscd := bscd, clkdiv := clkdiv }).succeed

/-- `SET_POWER power` (R257). -/
def execSetPower (power : BitVec 2) (s : State) : Host.Outcome State Fault Refusal :=
  .next (s.setCfg { s.cfg with power := power }).succeed

/-- `SET_PHASE phase` (R258). -/
def execSetPhase (phase : BitVec 12) (s : State) : Host.Outcome State Fault Refusal :=
  .next (s.setCfg { s.cfg with phase := phase }).succeed

end Sys2Proof.Machine
end

