-- ==== Sys2Proof/Machine/Pack.lean ====
section
/-! DEFINITION. Step 10 of the engine, `Pack` (41_divider_engine.md R166, R167, R169): the layout of
the six register words (30_encoding.md R100 to R106), merged into the images. -/

namespace Sys2Proof.Machine

/-- Register 0 (R101). -/
def packWord0 (p : Plan) (w : Word) : Word :=
  let w := setField w 0 3 0
  let w := setField w 3 12 p.frac
  setField w 15 16 p.nint

/-- Register 1 (R102). -/
def packWord1 (c : Cfg) (p : Plan) (w : Word) : Word :=
  let w := setField w 0 3 1
  let w := setField w 3 12 p.mod
  let w := setField w 15 12 c.phase.toNat
  setField w 27 1 p.presc.toNat

/-- Register 2 (R103). -/
def packWord2 (c : Cfg) (p : Plan) (w : Word) : Word :=
  let w := setField w 0 3 2
  let w := setField w 6 1 1
  let w := setField w 7 1 (zFlag p)
  let w := setField w 8 1 (zFlag p)
  let w := setField w 9 4 Config.cpCode
  let w := setField w 14 10 c.rcount.toNat
  let w := setField w 24 1 c.div2.toNat
  let w := setField w 25 1 c.doubler.toNat
  setField w 26 3 Config.muxSel

/-- Register 3 (R104). -/
def packWord3 (c : Cfg) (p : Plan) (w : Word) : Word :=
  let w := setField w 0 3 3
  let w := setField w 3 12 c.clkdiv.toNat
  let w := setField w 21 1 (zFlag p)
  let w := setField w 22 1 (zFlag p)
  setField w 23 1 1

/-- Register 4 (R105). -/
def packWord4 (c : Cfg) (p : Plan) (w : Word) : Word :=
  let w := setField w 0 3 4
  let w := setField w 3 2 c.power.toNat
  let w := setField w 5 1 1
  let w := setField w 11 1 0
  let w := setField w 12 8 c.bscd.toNat
  let w := setField w 20 3 p.rfdivsel
  setField w 23 1 1

/-- Register 5 (R106). -/
def packWord5 (w : Word) : Word :=
  let w := setField w 0 3 5
  let w := setField w 19 2 Config.r5Reserved
  setField w 22 2 Config.ldPinMode

/-- The six images with the plan and the configuration packed into them (R166). -/
def packRegs (c : Cfg) (p : Plan) (r : Vector Word 6) : Vector Word 6 :=
  #v[packWord0 p r[0], packWord1 c p r[1], packWord2 c p r[2], packWord3 c p r[3], packWord4 c p r[4],
    packWord5 r[5]]

/-- `Pack(p)` (R166). -/
def pack (p : Plan) (s : State) : State := s.setRegs (packRegs s.cfg p s.regs)

end Sys2Proof.Machine
end

