-- ==== Sys2Proof/Machine/Resolver.lean ====
section
/-! DEFINITION. The Step Resolver and `Retune` (42_step_resolver.md R190 to R199). -/

namespace Sys2Proof.Machine

/-- Stage 1 (R191): the divisor candidate `gcd(f, cfg.ref)`, where the caller asks for it. -/
def gcdCandidates (c : Cfg) (f : Nat) (useGcd : Bool) : List Nat :=
  if useGcd then [Nat.gcd f c.ref.toNat] else []

/-- Stage 2 (R192): the allowed steps that divide `f`, largest first. -/
def exactCandidates (par : Params) (f : Nat) : List Nat :=
  par.steps.reverse.filter fun s => decide (natMod f s = 0)

/-- The candidates in the order they are tried (R195): stage 1, stage 2, and stage 3, every allowed
step, smallest first (R193). -/
def candidates (par : Params) (c : Cfg) (f : Nat) (useGcd : Bool) : List Nat :=
  gcdCandidates c f useGcd ++ exactCandidates par f ++ par.steps

/-- The first candidate that the engine accepts ("first success wins", R190), or `ERR_NO_STEP` (R194). -/
def firstSuccess (par : Params) (c : Cfg) (f : Int) : List Nat → Except Failure Plan
  | [] => .error .noStep
  | s :: rest =>
    match engineEval par c f s with
    | .ok p => .ok p
    | .error _ => firstSuccess par c f rest

/-- `Resolve(cfg, f, use_gcd) → Ok(p) | Fail(ERR_NO_STEP)` (R190, R195). -/
def resolve (par : Params) (c : Cfg) (f : Int) (useGcd : Bool) : Except Failure Plan :=
  firstSuccess par c f (candidates par c f.toNat useGcd)

/-- The evaluation by the step mode (R197). -/
def planByMode (par : Params) (c : Cfg) (f : Int) : Except Failure Plan :=
  match c.stepMode with
  | .direct => engineEval par c f c.step.toNat
  | .resolve => resolve par c f false
  | .resolveGcd => resolve par c f true

/-- The part of `Retune` before anything is packed (R197, R198): the two range checks, then the
evaluation by the step mode. -/
def retunePlan (par : Params) (c : Cfg) (f : Int) : Except Failure Plan :=
  if freqInRange par f = false then .error .freqRange
  else
    match phaseDetectorOf par c with
    | .error e => .error e
    | .ok _ => planByMode par c f

/-- What the 64-bit `cfg.step` holds of a plan's step (R31, R197). A step that does not fit, which R6
allows, is an unstated value: free (log 22). -/
def storeStep (n : Nat) : Operand :=
  if n < 2 ^ 64 then BitVec.ofNat 64 n else Config.stepOverflow n

/-- The part of `Retune` that follows a successful evaluation (R197): record, pack, commit. The answer
is the plan's mismatch bit, or `ERR_TRANSPORT`. -/
def retuneCommit (f : Int) (p : Plan) (s : State) : Except Failure Bool × State :=
  let s := s.setPlan (.ok p)
  let s := s.setCfg { s.cfg with step := storeStep p.step }
  let s := pack p s
  match commit s with
  | (true, s) => (.ok p.mismatch, s.setCommitted (some f.toNat))
  | (false, s) => (.error .transport, s)

/-- `Retune(f)` (R197). The answer is the response's mismatch bit on success, or the failure. -/
def retune (f : Int) (s : State) : Except Failure Bool × State :=
  match retunePlan s.par s.cfg f with
  | .error e => (.error e, s.setPlan (.failed e))
  | .ok p => retuneCommit f p s

/-- The operation ends with the outcome of its `Retune` (R112, R197). -/
def State.finishRetune (s : State) (r : Except Failure Bool) : State :=
  match r with
  | .ok m => s.succeed m
  | .error e => s.failWith e

end Sys2Proof.Machine
end

