-- ==== Sys2Proof/Machine/Setpoint.lean ====
section
/-! DEFINITION. The setpoint-change hook (43_glide_tick.md R218) and the constant-rate magnitude, shared
by `TICK`, `SET_FREQ*`, `WAVE_OFF` and `GLIDE_CONST`. -/

namespace Sys2Proof.Machine

/-- What the 64-bit `g.const_mag` holds of a magnitude (R32, R218). One that does not fit is an
unstated value: free (log 9). -/
def storeMagnitude (q : Int) : Operand :=
  if 0 ≤ q ∧ q < 2 ^ 64 then BitVec.ofInt 64 q else Config.constMagOverflow q

/-- `tdiv(|setpoint − current|, n)` (R218, R265). -/
def rateMagnitude (setpoint current : Int) (n : Operand) : Operand :=
  storeMagnitude (tdiv ((setpoint - current).natAbs : Int) (unsigned n))

/-- `SetpointChanged()` (R218). -/
def State.setpointChanged (s : State) : State :=
  let s := s.setG { s.g with glideStart := s.g.current }
  if s.g.glideLaw = .const then
    s.setG { s.g with constMag := rateMagnitude s.g.setpoint s.g.current s.g.glideParam }
  else s

/-- `g.setpoint <- v`, and the hook if that changed it (R213, R218, R251, R266). -/
def State.moveSetpoint (s : State) (v : Int) : State :=
  let s' := s.setG { s.g with setpoint := v }
  if v ≠ s.g.setpoint then s'.setpointChanged else s'

end Sys2Proof.Machine
end

