-- ==== Sys2Proof/Machine/Frequency.lean ====
section
/-! DEFINITION. Setting the output frequency: `SET_FREQ`, `SET_FREQ_GCD`, `SET_FREQ_STEP`
(44_controller_ops.md R251 to R254). -/

namespace Sys2Proof.Machine

/-- The immediate path of R251: retune, clear `locked`, and on success set the four frequencies. -/
def setFreqNow (f : Int) (s : State) : State :=
  match retune f s with
  | (.ok m, s) =>
    let s := s.clearLocked
    (s.setG { s.g with base := f, setpoint := f, current := f, glideStart := f }).succeed m
  | (.error e, s) => s.clearLocked.failWith e

/-- The glide path of R251: record `base`, and the setpoint where no waveform law derives it. -/
def setFreqGlide (f : Int) (s : State) : State :=
  let s := s.setG { s.g with base := f }
  if s.g.waveLaw = .none then (s.moveSetpoint f).succeed else s.succeed

/-- `SetFreqCommon(f, mode, s)` (R251). -/
def setFreqCommon (f : Int) (mode : StepMode) (step : Operand) (s : State) : State :=
  if freqInRange s.par f = false then s.failWith .freqRange
  else
    let s := s.setCfg { s.cfg with stepMode := mode, step := if mode = .direct then step else s.cfg.step }
    if s.idle then setFreqNow f s else setFreqGlide f s

/-- `SET_FREQ f` (R252). -/
def execSetFreq (f : Operand) (s : State) : Host.Outcome State Fault Refusal :=
  .next (setFreqCommon (unsigned f) .resolve 0 s)

/-- `SET_FREQ_GCD f` (R253). -/
def execSetFreqGcd (f : Operand) (s : State) : Host.Outcome State Fault Refusal :=
  .next (setFreqCommon (unsigned f) .resolveGcd 0 s)

/-- `SET_FREQ_STEP f, s` (R254). -/
def execSetFreqStep (f step : Operand) (s : State) : Host.Outcome State Fault Refusal :=
  .next (setFreqCommon (unsigned f) .direct step s)

end Sys2Proof.Machine
end

