-- ==== Sys2Proof/Machine/GlideOps.lean ====
section
/-! DEFINITION. The glide-law operations: `GLIDE_OFF`, `GLIDE_LINEAR`, `GLIDE_EXP`, `GLIDE_CONST`
(44_controller_ops.md R262 to R265). Selecting a law replaces the previous one (43_glide_tick.md R232). -/

namespace Sys2Proof.Machine

/-- Select a glide law with its parameter and magnitude, and re-base the glide (R262 to R265). -/
def selectGlide (law : GlideLaw) (param mag : Operand) (s : State) : State :=
  (s.setG { s.g with
    glideLaw := law, glideParam := param, constMag := mag, glideStart := s.g.current }).succeed

/-- Select the law "none" (R262). -/
def glideNone (s : State) : State := selectGlide .none 0 0 s

/-- `GLIDE_OFF` (R262). -/
def execGlideOff (s : State) : Host.Outcome State Fault Refusal := .next (glideNone s)

/-- `GLIDE_LINEAR n` (R263); `n = 0` is as `GLIDE_OFF`. -/
def execGlideLinear (n : Operand) (s : State) : Host.Outcome State Fault Refusal :=
  .next (if n = 0 then glideNone s else selectGlide .linear n 0 s)

/-- `GLIDE_EXP k` (R264); `k = 0` is as `GLIDE_OFF`. -/
def execGlideExp (k : Operand) (s : State) : Host.Outcome State Fault Refusal :=
  .next (if k = 0 then glideNone s else selectGlide .exp k 0 s)

/-- `GLIDE_CONST n` (R265); `n = 0` is as `GLIDE_OFF`. -/
def execGlideConst (n : Operand) (s : State) : Host.Outcome State Fault Refusal :=
  .next (if n = 0 then glideNone s
    else selectGlide .const n (rateMagnitude s.g.setpoint s.g.current n) s)

end Sys2Proof.Machine
end

