-- ==== Sys2Proof/Machine/Query.lean ====
section
/-! DEFINITION. The queries `GET_REG` and `GET_PLAN` (44_controller_ops.md R273, R274). Neither changes
any state but the response. -/

namespace Sys2Proof.Machine

/-- `GET_REG i` (R273); an `i` outside 0 to 5 is refused (R111). -/
def execGetReg (i : BitVec 3) (s : State) : Host.Outcome State Fault Refusal :=
  .next <|
    match regSelector i with
    | some r => s.succeed false ((s.readReg r).setWidth 64)
    | none => s.failWith .badCommand

/-- `GET_PLAN sel` (R274); a `sel` outside 0 to 11 is refused first (R111, R296). The value is reduced
modulo `2^64` (R112). -/
def execGetPlan (sel : BitVec 4) (s : State) : Host.Outcome State Fault Refusal :=
  .next <|
    if planSelectorLegal sel = false then s.failWith .badCommand
    else
      match s.plan with
      | .none => s.failWith .noPlan
      | .failed e => s.failWith e
      | .ok p =>
        match planField p sel with
        | some v => s.succeed false (BitVec.ofInt 64 v)
        | none => s.failWith .badCommand

end Sys2Proof.Machine
end

