-- ==== Sys2Proof/Machine/Output.lean ====
section
/-! DEFINITION. Output enable and lock-assist: `ENABLE_OUT`, `DISABLE_OUT`, `LOCK_ASSIST`
(44_controller_ops.md R259 to R261). Each makes one transport write. -/

namespace Sys2Proof.Machine

/-- An operation whose last act was a transport write ends by its answer (R259 to R261, R229). -/
def State.finishWrite (s : State) (ok : Bool) : State :=
  s.endWith (if ok then .ok else .failed .transport)

/-- Write `rf_out_en` into the image of register 4 and send the word (R259, R260). -/
def keyOutput (enable : Nat) (s : State) : State :=
  let s := s.writeField 4 0 3 4
  let s := s.writeField 4 5 1 enable
  let r := xportWrite 4 (s.readReg 4) s
  r.2.finishWrite r.1

/-- `ENABLE_OUT` (R259). -/
def execEnableOut (s : State) : Host.Outcome State Fault Refusal := .next (keyOutput 1 s)

/-- `DISABLE_OUT` (R260). -/
def execDisableOut (s : State) : Host.Outcome State Fault Refusal := .next (keyOutput 0 s)

/-- The lock-assist write with `g.locked <- 1`, whether or not the write succeeded (R229, R261). -/
def assistLock (s : State) : State :=
  let r := lockAssistWrite s
  r.2.setLocked.finishWrite r.1

/-- `LOCK_ASSIST` (R261). -/
def execLockAssist (s : State) : Host.Outcome State Fault Refusal := .next (assistLock s)

end Sys2Proof.Machine
end

