-- ==== Sys2Proof/Machine/Tick.lean ====
section
/-! DEFINITION. `TICK`, one control-loop tick (43_glide_tick.md R210 to R231). -/

namespace Sys2Proof.Machine

/-! ## Steps 2 and 3: the phase accumulator and the waveform laws -/

/-- Step 2 (R212): `(phase_acc + phase_step) mod TABLE_LEN`. -/
def advancePhase (s : State) : State :=
  s.setG { s.g with phaseAcc := natMod (s.g.phaseAcc + s.g.phaseStep.toNat) s.par.tableLen }

/-- The linear-ramp offset (R214). -/
def rampOffset (par : Params) (phase : Nat) (amplitude : Operand) : Int :=
  tdiv ((phase : Int) * unsigned amplitude) (par.tableLen : Int)

/-- The sine offset (R215). -/
def sineOffset (par : Params) (phase : Nat) (amplitude : Operand) : Int :=
  tdiv (tableRead par phase * unsigned amplitude) (par.tableScale : Int)

/-- `TRI_OFFSET(phase, period)` (R216, R6): the spec's default, or a free function (log 7). -/
def triOffset (par : Params) (phase : Nat) (period : Operand) : Int :=
  match par.tri with
  | .standard =>
    let q : Int := (natMod phase period.toNat : Nat)
    2 * min q (unsigned period - q)
  | .other id => Config.triOffset id phase period.toNat

/-- Step 3 (R213 to R217): derive the setpoint from the waveform law, with the hook on a change. -/
def deriveSetpoint (s : State) : State :=
  match s.g.waveLaw with
  | .none => s
  | .ramp => s.moveSetpoint (s.g.base + rampOffset s.par s.g.phaseAcc s.g.waveParam)
  | .sine => s.moveSetpoint (s.g.base + sineOffset s.par s.g.phaseAcc s.g.waveParam)
  | .tri => s.moveSetpoint (s.g.base + triOffset s.par s.g.phaseAcc s.g.waveParam)
  | .random =>
    let r := rand 0 (unsigned s.g.waveParam) s
    r.2.moveSetpoint (s.g.base + r.1)

/-! ## Step 4: the glide laws -/

/-- The exponential law (R221). -/
def expGlide (g : Glide) : Int := g.current + tdiv (g.setpoint - g.current) (unsigned g.glideParam)

/-- The linear law (R222). -/
def linearGlide (g : Glide) : Int :=
  let step := tdiv (g.setpoint - g.glideStart) (unsigned g.glideParam)
  if step.natAbs < (g.setpoint - g.current).natAbs then g.current + step else g.setpoint

/-- The advance of the constant-rate law, at least 1 Hz (R223). -/
def constAdvance (par : Params) (g : Glide) (dt : Operand) : Int :=
  max 1 (tdiv (unsigned g.constMag * unsigned dt) (par.tickUnit : Int))

/-- The constant-rate law (R223). -/
def constGlide (par : Params) (g : Glide) (dt : Operand) : Int :=
  let adv := constAdvance par g dt
  if ((g.setpoint - g.current).natAbs : Int) ≤ adv then g.setpoint
  else g.current + (g.setpoint - g.current).sign * adv

/-- The value that step 4 gives `g.current` (R219 to R223). -/
def glideTo (par : Params) (g : Glide) (dt : Operand) : Int :=
  match g.glideLaw with
  | .none => g.setpoint
  | .exp => expGlide g
  | .linear => linearGlide g
  | .const => constGlide par g dt

/-- Step 4 (R219). -/
def advanceCurrent (dt : Operand) (s : State) : State :=
  s.setG { s.g with current := glideTo s.par s.g dt }

/-! ## Steps 5 to 7: dither, retune, lock-assist -/

/-- Step 5 (R227): the tick's target, `g.current` plus a draw where a dither amplitude is set. -/
def tickTarget (s : State) : Int × State :=
  if s.g.dither ≠ 0 then
    let r := rand (-unsigned s.g.dither) (unsigned s.g.dither) s
    (s.g.current + r.1, r.2)
  else (s.g.current, s)

/-- `committed = Some(target)` (R228). -/
def State.settledOn (s : State) (target : Int) : Bool :=
  match s.committed with
  | none => false
  | some f => decide ((f : Int) = target)

/-- Steps 6 and 7 (R228, R229). -/
def settle (target : Int) (s : State) : State :=
  if s.settledOn target = false then
    let r := retune target s
    r.2.clearLocked.finishRetune r.1
  else if s.g.locked = false then assistLock s
  else s.succeed

/-- Steps 2 to 4 (R212 to R223). -/
def moveFrequency (dt : Operand) (s : State) : State :=
  advanceCurrent dt (deriveSetpoint (advancePhase s))

/-- The seven steps of a tick (R210), an idle tick ending at step 1 (R211). -/
def tick (dt : Operand) (s : State) : State :=
  if s.idle then s.succeed
  else
    let t := tickTarget (moveFrequency dt s)
    settle t.1 t.2

/-- `TICK dt` (R210). -/
def execTick (dt : Operand) (s : State) : Host.Outcome State Fault Refusal := .next (tick dt s)

end Sys2Proof.Machine
end

