-- ==== Sys2Proof/Machine/WaveOps.lean ====
section
/-! DEFINITION. The waveform-law operations: `WAVE_OFF`, `WAVE_RAMP`, `WAVE_SINE`, `WAVE_TRI`,
`WAVE_RANDOM`, and `SET_DITHER`, `SET_PHASE_STEP` (44_controller_ops.md R266 to R272). -/

namespace Sys2Proof.Machine

/-- Select a waveform law with its parameter; the setpoint and the accumulator are left alone (R267). -/
def selectWave (law : WaveLaw) (param : Operand) (s : State) : State :=
  (s.setG { s.g with waveLaw := law, waveParam := param }).succeed

/-- Select the law "none" and return the setpoint to `g.base` (R266). -/
def waveNone (s : State) : State :=
  let s := s.setG { s.g with waveLaw := .none, waveParam := 0 }
  (s.moveSetpoint s.g.base).succeed

/-- A waveform law with parameter `a`; a zero parameter is as `WAVE_OFF` (R267). -/
def waveOrNone (law : WaveLaw) (a : Operand) (s : State) : State :=
  if a = 0 then waveNone s else selectWave law a s

/-- `WAVE_OFF` (R266). -/
def execWaveOff (s : State) : Host.Outcome State Fault Refusal := .next (waveNone s)

/-- `WAVE_RAMP a` (R267). -/
def execWaveRamp (a : Operand) (s : State) : Host.Outcome State Fault Refusal :=
  .next (waveOrNone .ramp a s)

/-- `WAVE_SINE a` (R268). -/
def execWaveSine (a : Operand) (s : State) : Host.Outcome State Fault Refusal :=
  .next (waveOrNone .sine a s)

/-- `WAVE_TRI a` (R269). -/
def execWaveTri (a : Operand) (s : State) : Host.Outcome State Fault Refusal :=
  .next (waveOrNone .tri a s)

/-- `WAVE_RANDOM a` (R270). -/
def execWaveRandom (a : Operand) (s : State) : Host.Outcome State Fault Refusal :=
  .next (waveOrNone .random a s)

/-- `SET_DITHER d` (R271). -/
def execSetDither (d : Operand) (s : State) : Host.Outcome State Fault Refusal :=
  .next (s.setG { s.g with dither := d }).succeed

/-- `SET_PHASE_STEP n` (R272). -/
def execSetPhaseStep (n : Operand) (s : State) : Host.Outcome State Fault Refusal :=
  .next (s.setG { s.g with phaseStep := n }).succeed

end Sys2Proof.Machine
end

