-- ==== Sys2Proof/Machine/Dispatch.lean ====
section
/-! DEFINITION. One arm per operation (30_encoding.md R110). -/

namespace Sys2Proof.Machine

def exec (i : Instr) (s : State) : Host.Outcome State Fault Refusal :=
  match i with
  | .tick dt => Sys2Proof.Machine.execTick dt s
  | .setFreq f => Sys2Proof.Machine.execSetFreq f s
  | .setFreqGcd f => Sys2Proof.Machine.execSetFreqGcd f s
  | .setFreqStep f step => Sys2Proof.Machine.execSetFreqStep f step s
  | .setRef ref rcount doubler div2 => Sys2Proof.Machine.execSetRef ref rcount doubler div2 s
  | .setClocks bscd clkdiv => Sys2Proof.Machine.execSetClocks bscd clkdiv s
  | .setPower power => Sys2Proof.Machine.execSetPower power s
  | .setPhase phase => Sys2Proof.Machine.execSetPhase phase s
  | .enableOut => Sys2Proof.Machine.execEnableOut s
  | .disableOut => Sys2Proof.Machine.execDisableOut s
  | .lockAssist => Sys2Proof.Machine.execLockAssist s
  | .glideOff => Sys2Proof.Machine.execGlideOff s
  | .glideLinear n => Sys2Proof.Machine.execGlideLinear n s
  | .glideExp k => Sys2Proof.Machine.execGlideExp k s
  | .glideConst n => Sys2Proof.Machine.execGlideConst n s
  | .waveOff => Sys2Proof.Machine.execWaveOff s
  | .waveRamp a => Sys2Proof.Machine.execWaveRamp a s
  | .waveSine a => Sys2Proof.Machine.execWaveSine a s
  | .waveTri a => Sys2Proof.Machine.execWaveTri a s
  | .waveRandom a => Sys2Proof.Machine.execWaveRandom a s
  | .setDither d => Sys2Proof.Machine.execSetDither d s
  | .setPhaseStep n => Sys2Proof.Machine.execSetPhaseStep n s
  | .getReg r => Sys2Proof.Machine.execGetReg r s
  | .getPlan sel => Sys2Proof.Machine.execGetPlan sel s

end Sys2Proof.Machine
end

