-- ==== Sys2Proof/Machine/Step.lean ====
section
/-! DEFINITION. One step: what the environment presents next is executed (00_scope.md R10). -/

namespace Sys2Proof.Machine

/-- One step (R10). A command word that decodes runs its operation; one that does not fails with
`ERR_BAD_COMMAND` and changes nothing else (R111, R250). The reset event resets (R320). With nothing
presented the CORE waits (R320; log 1). -/
def step (s : State) : Host.Outcome State Fault Refusal :=
  match s.nextEvent with
  | none => .next s
  | some (.reset, s') => .next s'.applyReset
  | some (.command w, s') =>
    match decode w with
    | .ok i => exec i s'
    | .error _ => .next (s'.failWith .badCommand)

/-- `s` with the command word `w` presented before everything the environment already presents (log 1). -/
def State.withFetchWord (s : State) (nbits w : Nat) : State :=
  s.setEnv { s.env with events := .command (BitVec.ofNat 136 (w % 2 ^ nbits)) :: s.env.events }

end Sys2Proof.Machine
end

