-- ==== Sys2Proof/Safety.lean ====
section
/-! DEFINITION. The terms the statements use: the invariant of 10_state.md R39, which words are
malformed (30_encoding.md R111), which operations may do what (R40, 60_exceptions.md R291), the
expected effects of the shared procedures, and runs of ticks. -/

namespace Sys2Proof.Machine

/-! ## The invariant (R39) -/

/-- What a plan of a successful evaluation satisfies (R39 (c), R33): the ranges of R159 and R152, the
phase-detector range, and a requested frequency in range whose difference from the achieved one is the
mismatch. -/
structure PlanOk (par : Params) (p : Plan) : Prop where
  modRange : Config.modMin ≤ p.mod ∧ p.mod ≤ Config.modMax
  fracRange : p.frac ≤ p.mod - 1
  nintRange : nintMin p.presc ≤ p.nint ∧ p.nint ≤ Config.nintMax
  divider : p.div = 2 ^ p.rfdivsel ∧ p.rfdivsel ≤ 6
  pfdRange : par.pfdMin ≤ p.pfd ∧ p.pfd ≤ par.pfdMax
  achievedPositive : 0 < p.achieved
  stepPositive : 1 ≤ p.step
  requested : ∃ f : Nat, Config.fOutMin ≤ f ∧ f ≤ par.fOutMax ∧ p.mismatch = mismatchFlag p.achieved f

/-- The failures that `Retune` records in `plan` (R197, R291): not a transport failure, a malformed
command or a missing plan. -/
def Failure.recorded : Failure → Bool
  | .freqRange => true
  | .pfdRange => true
  | .modRange => true
  | .fracRange => true
  | .nintRange => true
  | .noStep => true
  | .transport => false
  | .badCommand => false
  | .noPlan => false

/-- The invariant of R39, (a) to (e) and (g), with the clause of R291 that `ERR_TRANSPORT` (and the two
codes that no evaluation gives) is never stored in `plan`. -/
structure State.Inv (s : State) : Prop where
  glideParam : s.g.glideLaw = .none ↔ s.g.glideParam = 0
  waveParam : s.g.waveLaw = .none ↔ s.g.waveParam = 0
  phaseAcc : s.g.phaseAcc < s.par.tableLen
  planOk : ∀ p, s.plan = .ok p → PlanOk s.par p
  planFailed : ∀ e, s.plan = .failed e → e.recorded = true
  committed : ∀ f, s.committed = some f → Config.fOutMin ≤ f ∧ f ≤ s.par.fOutMax
  address : ∀ i : RegIdx, getField (s.readReg i) 0 3 = 0 ∨ getField (s.readReg i) 0 3 = i.val
  base : 0 ≤ s.g.base

/-! ## Malformed command words (R108, R111) -/

/-- The 24 opcodes with the masks of the bits of `A` and of `B` that R108 marks reserved. -/
def reservedMasks : List (BitVec 8 × Operand × Operand) :=
  let all : Operand := 0xFFFFFFFFFFFFFFFF
  [(0x00, all, 0), (0x01, 0, all), (0x02, 0, all), (0x03, 0, 0),
   (0x08, 0, 0xFFFFFFFFFFFFF000), (0x09, all, 0xFFFFFFFFFFF00000),
   (0x0A, all, 0xFFFFFFFFFFFFFFFC), (0x0B, all, 0xFFFFFFFFFFFFF000),
   (0x0C, all, all), (0x0D, all, all), (0x0E, all, all),
   (0x10, all, all), (0x11, 0, all), (0x12, 0, all), (0x13, 0, all),
   (0x18, all, all), (0x19, 0, all), (0x1A, 0, all), (0x1B, 0, all), (0x1C, 0, all),
   (0x1D, 0, all), (0x1E, 0, all),
   (0x20, all, 0xFFFFFFFFFFFFFFF8), (0x21, all, 0xFFFFFFFFFFFFFFF0)]

/-- A command that R111 refuses: an opcode outside the table, a nonzero reserved bit, `GET_REG` with
`i > 5`, or `GET_PLAN` with `sel > 11`. -/
def malformed (op : BitVec 8) (a b : Operand) : Bool :=
  match reservedMasks.lookup op with
  | none => true
  | some (ma, mb) =>
    a &&& ma != 0 || b &&& mb != 0 || (op == 0x20 && decide (5 < b.toNat))
      || (op == 0x21 && decide (11 < b.toNat))

/-- The command word of `i` has opcode `op`, first operand `a` and second operand `b` (R107). -/
def wordIs (i : Instr) (op a b : Nat) : Prop := (encode i).toNat = op * 2 ^ 128 + a * 2 ^ 64 + b

/-! ## Which operations may do what (R40, R291) -/

/-- The operations that can run `Retune`. -/
def canRetune : Instr → Bool
  | .tick _ | .setFreq _ | .setFreqGcd _ | .setFreqStep _ _ => true
  | .setRef _ _ _ _ | .setClocks _ _ | .setPower _ | .setPhase _ | .enableOut | .disableOut |
    .lockAssist | .glideOff | .glideLinear _ | .glideExp _ | .glideConst _ | .waveOff |
    .waveRamp _ | .waveSine _ | .waveTri _ | .waveRandom _ | .setDither _ | .setPhaseStep _ |
    .getReg _ | .getPlan _ => false

/-- The operations that R40 lets write `R[0]` to `R[5]` or `xlog`. -/
def canWriteRegs : Instr → Bool
  | .tick _ | .setFreq _ | .setFreqGcd _ | .setFreqStep _ _ | .enableOut | .disableOut | .lockAssist => true
  | .setRef _ _ _ _ | .setClocks _ _ | .setPower _ | .setPhase _ | .glideOff | .glideLinear _ |
    .glideExp _ | .glideConst _ | .waveOff | .waveRamp _ | .waveSine _ | .waveTri _ |
    .waveRandom _ | .setDither _ | .setPhaseStep _ | .getReg _ | .getPlan _ => false

/-- The queries. -/
def isQuery : Instr → Bool
  | .getReg _ | .getPlan _ => true
  | .tick _ | .setFreq _ | .setFreqGcd _ | .setFreqStep _ _ | .setRef _ _ _ _ | .setClocks _ _ |
    .setPower _ | .setPhase _ | .enableOut | .disableOut | .lockAssist | .glideOff |
    .glideLinear _ | .glideExp _ | .glideConst _ | .waveOff | .waveRamp _ | .waveSine _ |
    .waveTri _ | .waveRandom _ | .setDither _ | .setPhaseStep _ => false

/-- `SET_REF`. -/
def isSetRef : Instr → Bool
  | .setRef _ _ _ _ => true
  | .tick _ | .setFreq _ | .setFreqGcd _ | .setFreqStep _ _ | .setClocks _ _ | .setPower _ |
    .setPhase _ | .enableOut | .disableOut | .lockAssist | .glideOff | .glideLinear _ |
    .glideExp _ | .glideConst _ | .waveOff | .waveRamp _ | .waveSine _ | .waveTri _ |
    .waveRandom _ | .setDither _ | .setPhaseStep _ | .getReg _ | .getPlan _ => false

/-- `GET_PLAN`. -/
def isGetPlan : Instr → Bool
  | .getPlan _ => true
  | .tick _ | .setFreq _ | .setFreqGcd _ | .setFreqStep _ _ | .setRef _ _ _ _ | .setClocks _ _ |
    .setPower _ | .setPhase _ | .enableOut | .disableOut | .lockAssist | .glideOff |
    .glideLinear _ | .glideExp _ | .glideConst _ | .waveOff | .waveRamp _ | .waveSine _ |
    .waveTri _ | .waveRandom _ | .setDither _ | .setPhaseStep _ | .getReg _ => false

/-- Which operation can end with which failure (R291); `mode` is `cfg.step_mode` after the operation. -/
def canEndWith (i : Instr) (mode : StepMode) : Failure → Bool
  | .freqRange => canRetune i || isGetPlan i
  | .pfdRange => canRetune i || isGetPlan i || isSetRef i
  | .modRange => (canRetune i && decide (mode = .direct)) || isGetPlan i
  | .fracRange => (canRetune i && decide (mode = .direct)) || isGetPlan i
  | .nintRange => (canRetune i && decide (mode = .direct)) || isGetPlan i
  | .noStep => (canRetune i && decide (mode ≠ .direct)) || isGetPlan i
  | .transport => canWriteRegs i
  | .badCommand => !i.wellFormed
  | .noPlan => isGetPlan i

/-! ## Expected effects -/

/-- The answer the transport gives to the `k`-th write from `s` on, counted from 0 (R70; log 2). -/
def State.answer (s : State) (k : Nat) : Bool :=
  match s.env.oks[k]? with
  | some b => b
  | none => Config.xportAnswer (s.env.asked + k)

/-- The log entries of the first `k` writes of a commit of the images `r`, made from `s`: registers 5, 4,
3, 2, 1, 0 in this order (R81). -/
def commitEntries (s : State) (r : Vector Word 6) (k : Nat) : List XportEntry :=
  (([5, 4, 3, 2, 1, 0] : List RegIdx).take k).zipIdx.map fun ij =>
    { idx := ij.1, val := r[ij.1], ok := s.answer ij.2 }

/-- The environment after `k` writes (R70; log 2). -/
def Env.afterWrites (e : Env) (k : Nat) : Env :=
  { e with oks := e.oks.drop k, asked := e.asked + k }

/-- The environment after one draw (R73; log 3). -/
def Env.afterDraw (e : Env) : Env := { e with draws := e.draws.tail, drawn := e.drawn + 1 }

/-- The state a successful `Retune(f)` with plan `p` leaves (R197). -/
def retuned (f : Int) (p : Plan) (s : State) : State :=
  { s with
    plan := .ok p, cfg := { s.cfg with step := storeStep p.step }
    regs := packRegs s.cfg p s.regs, committed := some f.toNat
    xlog := s.xlog ++ commitEntries s (packRegs s.cfg p s.regs) 6
    env := s.env.afterWrites 6 }

/-- The state a `Retune` leaves whose commit fails at its write number `k`, from 0 (R81, R197, R293). -/
def retuneCut (k : Nat) (p : Plan) (s : State) : State :=
  { s with
    plan := .ok p, cfg := { s.cfg with step := storeStep p.step }
    regs := packRegs s.cfg p s.regs
    xlog := s.xlog ++ commitEntries s (packRegs s.cfg p s.regs) (k + 1)
    env := s.env.afterWrites (k + 1) }

/-- The word a lock-assist write sends: the image with its address and the lock-assist bit (R230). -/
def assistWord (s : State) : Word :=
  setField (setField (s.readReg s.par.lockAssistReg) 0 3 s.par.lockAssistReg.val (by decide))
    s.par.lockAssistBit.val 1 1 s.par.lockAssistBit.isLt

/-- The state after one transport write of `v` as the image of register `i` (R70, R141). -/
def written (i : RegIdx) (v : Word) (s : State) : State :=
  { s with
    regs := s.regs.set i.val v i.isLt
    xlog := s.xlog ++ [{ idx := i, val := v, ok := s.answer 0 }]
    env := s.env.afterWrites 1 }

/-- The response of an operation whose one write was answered `ok` (R259 to R261). -/
def writeResponse (ok : Bool) : Response :=
  { status := if ok then .ok else .failed .transport, mismatch := false, data := 0 }

/-- The response `status = OK`, `mismatch = 0`, `data = 0` (R250). -/
def plainOk : Response := { status := .ok, mismatch := false, data := 0 }

/-- The response of a failure (R292). -/
def failure (e : Failure) : Response := { status := .failed e, mismatch := false, data := 0 }

/-- The state after the environment's queue lost its first entry (R10; log 1). -/
def popped (s : State) (rest : List EnvEvent) : State :=
  { s with env := { s.env with events := rest } }

/-- The state in which a `SET_FREQ*` has recorded its step mode and channel step (R251). -/
def withMode (s : State) (mode : StepMode) (step : Operand) : State :=
  { s with cfg := { s.cfg with stepMode := mode, step := step } }

/-- The glide group with all four frequencies at `f` and `locked` clear (R251). -/
def tunedGlide (g : Glide) (f : Int) : Glide :=
  { g with base := f, setpoint := f, current := f, glideStart := f, locked := false }

/-- The glide group after a change of the setpoint to `v`: the hook of R218. -/
def hooked (g : Glide) (v : Int) : Glide :=
  { g with
    setpoint := v
    glideStart := if v = g.setpoint then g.glideStart else g.current
    constMag := if v = g.setpoint then g.constMag
      else if g.glideLaw = .const then rateMagnitude v g.current g.glideParam else g.constMag }

/-- No waveform law and no glide law is active (R211, R251). -/
def NoLaw (s : State) : Prop := s.g.glideLaw = .none ∧ s.g.waveLaw = .none

/-- The frequency is legal (R151). -/
def LegalFreq (par : Params) (f : Int) : Prop := (Config.fOutMin : Int) ≤ f ∧ f ≤ (par.fOutMax : Int)

/-- `i`, a `SET_FREQ*` of `f` that records `s1`, takes the immediate path and commits (R251, R197). -/
def Tunes (i : Instr) (f : Operand) (s s1 : State) : Prop :=
  ∀ p, NoLaw s → retunePlan s1.par s1.cfg (unsigned f) = .ok p → (∀ k < 6, s.answer k = true) →
    exec i s = .next
      { retuned (unsigned f) p s1 with
        g := tunedGlide s.g (unsigned f), rsp := { status := .ok, mismatch := p.mismatch, data := 0 } }

/-- `i`, a `SET_FREQ*` of `f` that records `s1`, takes the immediate path and finds no plan (R251, R293). -/
def FailsToPlan (i : Instr) (f : Operand) (s s1 : State) : Prop :=
  ∀ e, NoLaw s → LegalFreq s.par (unsigned f) → retunePlan s1.par s1.cfg (unsigned f) = .error e →
    exec i s = .next
      { s1 with plan := .failed e, g := { s.g with locked := false }, rsp := failure e }

/-- `i`, a `SET_FREQ*` of `f` that records `s1`, takes the immediate path and loses write `k` (R251, R293). -/
def FailsToCommit (i : Instr) (f : Operand) (s s1 : State) : Prop :=
  ∀ p k, NoLaw s → retunePlan s1.par s1.cfg (unsigned f) = .ok p →
    k < 6 → (∀ j < k, s.answer j = true) → s.answer k = false →
    exec i s = .next
      { retuneCut k p s1 with g := { s.g with locked := false }, rsp := failure .transport }

/-- `i`, a `SET_FREQ*` of `f` that records `s1`, takes the glide path (R251). -/
def TakesGlidePath (i : Instr) (f : Operand) (s s1 : State) : Prop :=
  ¬NoLaw s → LegalFreq s.par (unsigned f) →
    exec i s = .next
      { s1 with
        g := if s.g.waveLaw = .none then hooked { s.g with base := unsigned f } (unsigned f)
          else { s.g with base := unsigned f }
        rsp := plainOk }

/-! ## The state each operation may write (R40) -/

/-- The environment's side after an operation that makes no draw: answers may be consumed (R70). -/
def answersUsed (s t : State) : Env := { s.env with oks := t.env.oks, asked := t.env.asked }

/-- `t` is `s` but for the cells that R40 lets a `Retune` write, with this `step_mode`, and the response;
`e` is the environment's side. -/
def WritesByRetune (s t : State) (mode : StepMode) (e : Env) : Prop :=
  t = { s with
    cfg := { s.cfg with step := t.cfg.step, stepMode := mode }, g := t.g, regs := t.regs, plan := t.plan
    committed := t.committed, xlog := t.xlog, rsp := t.rsp, env := e }

/-- `t` is `s` but for the image of register `r`, the log, this glide group and the response. -/
def WritesOneRegister (s t : State) (r : RegIdx) (g : Glide) : Prop :=
  t = { s with
    regs := s.regs.set r.val (t.readReg r) r.isLt, g := g, xlog := t.xlog, rsp := t.rsp
    env := answersUsed s t }

/-- The write columns of R40, one row per operation: `t`, which the operation leaves, is `s` but for the
cells of its row, the response, and what it consumed of the environment's side. -/
def WritesOnly : Instr → State → State → Prop
  | .tick _, s, t =>
    WritesByRetune s t s.cfg.stepMode { answersUsed s t with draws := t.env.draws, drawn := t.env.drawn }
  | .setFreq _, s, t => WritesByRetune s t t.cfg.stepMode (answersUsed s t)
  | .setFreqGcd _, s, t => WritesByRetune s t t.cfg.stepMode (answersUsed s t)
  | .setFreqStep _ _, s, t => WritesByRetune s t t.cfg.stepMode (answersUsed s t)
  | .setRef _ _ _ _, s, t =>
    t = { s with
      cfg := { s.cfg with
        ref := t.cfg.ref, rcount := t.cfg.rcount, doubler := t.cfg.doubler, div2 := t.cfg.div2 }
      rsp := t.rsp }
  | .setClocks _ _, s, t =>
    t = { s with cfg := { s.cfg with bscd := t.cfg.bscd, clkdiv := t.cfg.clkdiv }, rsp := t.rsp }
  | .setPower _, s, t => t = { s with cfg := { s.cfg with power := t.cfg.power }, rsp := t.rsp }
  | .setPhase _, s, t => t = { s with cfg := { s.cfg with phase := t.cfg.phase }, rsp := t.rsp }
  | .enableOut, s, t => WritesOneRegister s t 4 s.g
  | .disableOut, s, t => WritesOneRegister s t 4 s.g
  | .lockAssist, s, t => WritesOneRegister s t s.par.lockAssistReg { s.g with locked := t.g.locked }
  | .glideOff, s, t => t = { s with g := t.g, rsp := t.rsp }
  | .glideLinear _, s, t => t = { s with g := t.g, rsp := t.rsp }
  | .glideExp _, s, t => t = { s with g := t.g, rsp := t.rsp }
  | .glideConst _, s, t => t = { s with g := t.g, rsp := t.rsp }
  | .waveOff, s, t => t = { s with g := t.g, rsp := t.rsp }
  | .waveRamp _, s, t => t = { s with g := t.g, rsp := t.rsp }
  | .waveSine _, s, t => t = { s with g := t.g, rsp := t.rsp }
  | .waveTri _, s, t => t = { s with g := t.g, rsp := t.rsp }
  | .waveRandom _, s, t => t = { s with g := t.g, rsp := t.rsp }
  | .setDither _, s, t => t = { s with g := { s.g with dither := t.g.dither }, rsp := t.rsp }
  | .setPhaseStep _, s, t => t = { s with g := { s.g with phaseStep := t.g.phaseStep }, rsp := t.rsp }
  | .getReg _, s, t => t = { s with rsp := t.rsp }
  | .getPlan _, s, t => t = { s with rsp := t.rsp }

/-! ## Runs of ticks -/

/-- The state after ticks with these elapsed times, if every one answers a next state. -/
def afterTicks : List Operand → State → Option State
  | [], s => some s
  | dt :: rest, s =>
    match exec (.tick dt) s with
    | .next t => afterTicks rest t
    | .fault _ => none
    | .refused _ => none

end Sys2Proof.Machine
end

