-- ==== Sys2Proof/Certificates/Slice0/Obligations.lean ====
section
/-! DEFINITION. The statements about the CORE, one `def Obligations.<Name> : Prop` each; the numbered
rules they follow are named in their docstrings and in OBLIGATIONS.json. -/

open Sys2Proof Sys2Proof.Machine

/-! ## The command word, the step, reset -/

/-- Decoding the command word of a well-formed operation gives that operation, with every operand at
every value of its field (R107, R108, R110). -/
def Obligations.DecodeOfEncode : Prop :=
  ∀ i : Instr, i.wellFormed = true → decode (encode i) = .ok i

/-- A word that decodes is the command word of the operation it decodes to, and that operation is well
formed: no bit of an accepted word is dropped (R107, R108, R111). -/
def Obligations.EncodeOfDecode : Prop :=
  ∀ (w : CmdWord) (i : Instr), decode w = .ok i → encode i = w ∧ i.wellFormed = true

/-- R111: a command with an illegal opcode, a nonzero reserved bit or an operand outside its set fails
`ERR_BAD_COMMAND` and changes nothing but the response (log 11) and the presented word, which leaves the
queue; every other command is accepted. -/
def Obligations.MalformedCommandsAreRefused : Prop :=
  ∀ (s : State) (w : CmdWord) (rest : List EnvEvent), s.env.events = .command w :: rest →
    (malformed (opField w) (aField w) (bField w) = true →
      step s = .next { s with rsp := failure .badCommand, env := { s.env with events := rest } }) ∧
    (malformed (opField w) (aField w) (bField w) = false →
      ∃ i, i.wellFormed = true ∧ decode w = .ok i)

/-- A step runs the decoded operation: the presented word leaves the queue and the step is `exec` of
what it decodes to (R10, R250). Presenting a word to any state (log 1) runs it next, with nothing else
changed. -/
def Obligations.StepRunsDecodedInstruction : Prop :=
  ∀ (s : State) (w : CmdWord) (i : Instr), decode w = .ok i →
    (∀ rest, s.env.events = .command w :: rest → step s = exec i (popped s rest)) ∧
    step (s.withFetchWord 136 w.toNat) = exec i s

/-- The MODEL's choice (log 1): with nothing presented, a step changes nothing (R320: "after reset it
waits for the first operation"). -/
def Obligations.StepWaitsWithNothingPresented : Prop :=
  ∀ s : State, s.env.events = [] → step s = .next s

/-- The reset event (R320): every piece of the spec's state takes the value of R38, no write is issued,
the parameters do not change; the environment's side is its own (log 19). -/
def Obligations.ResetEventRestoresResetState : Prop :=
  ∀ (s : State) (rest : List EnvEvent), s.env.events = .reset :: rest →
    step s = .next { State.reset with par := s.par, env := { s.env with events := rest } }

/-- R38: the value of every piece of state after reset. -/
def Obligations.ResetValues : Prop :=
  (∀ i : RegIdx, State.reset.readReg i = 0x00000000) ∧
  State.reset.cfg.ref = 0 ∧ State.reset.cfg.doubler = false ∧ State.reset.cfg.div2 = false ∧
  State.reset.cfg.rcount = 0 ∧ State.reset.cfg.bscd = 0 ∧ State.reset.cfg.clkdiv = 0 ∧
  State.reset.cfg.power = 0 ∧ State.reset.cfg.step = 0 ∧ State.reset.cfg.phase = 0 ∧
  State.reset.cfg.stepMode.code = 0 ∧
  State.reset.g.current = 0 ∧ State.reset.g.glideStart = 0 ∧ State.reset.g.setpoint = 0 ∧
  State.reset.g.base = 0 ∧ State.reset.g.glideLaw.code = 0 ∧ State.reset.g.waveLaw.code = 0 ∧
  State.reset.g.glideParam = 0 ∧ State.reset.g.waveParam = 0 ∧ State.reset.g.constMag = 0 ∧
  State.reset.g.dither = 0 ∧ State.reset.g.phaseAcc = 0 ∧ State.reset.g.phaseStep = 1 ∧
  State.reset.g.locked = false ∧ State.reset.plan = .none ∧ State.reset.committed = none ∧
  State.reset.xlog = [] ∧ State.reset.lockedOut = false ∧ State.reset.rsp.word = 0

/-- Words written out from R107 to R110 decode to the operations they stand for. -/
def Obligations.DecodeWordsFromSpec : Prop :=
  decode 0x00000000000000000000000000000003E8 = .ok (.tick 1000) ∧
  decode 0x0300000000061C06A00000000000002710 = .ok (.setFreqStep 102500000 10000) ∧
  decode 0x0800000000009896800000000000000C03 = .ok (.setRef 10000000 3 true true) ∧
  decode 0x09000000000000000000000000000096C8 = .ok (.setClocks 200 150) ∧
  decode 0x0C00000000000000000000000000000000 = .ok .enableOut ∧
  decode 0x1300000000000000640000000000000000 = .ok (.glideConst 100) ∧
  decode 0x1A00000000000027100000000000000000 = .ok (.waveSine 10000) ∧
  decode 0x2100000000000000000000000000000004 = .ok (.getPlan 4)

/-- The layout of the response word (R112) with the nine failure codes of R290. -/
def Obligations.ResponseWordLayout : Prop :=
  (Failure.code .freqRange = 1 ∧ Failure.code .pfdRange = 2 ∧ Failure.code .modRange = 3 ∧
    Failure.code .fracRange = 4 ∧ Failure.code .nintRange = 5 ∧ Failure.code .noStep = 6 ∧
    Failure.code .transport = 7 ∧ Failure.code .badCommand = 8 ∧ Failure.code .noPlan = 9) ∧
  Status.code .ok = 0 ∧ (∀ e : Failure, Status.code (.failed e) = e.code) ∧
  ∀ r : Response,
    r.word.extractLsb' 65 8 = r.status.code ∧ r.word.getLsbD 64 = r.mismatch ∧
    r.word.extractLsb' 0 64 = r.data ∧ (r.status.code = 0 ↔ r.status = .ok) ∧
    r.status.code.toNat ≤ 9

/-! ## Primitives -/

/-- The properties of `SetField` and `GetField` that R142 and R143 state: the field reads back, every bit
outside is kept, setting twice is setting once, disjoint fields commute, and a field is in range. -/
def Obligations.SetFieldReadsBackAndKeepsRest : Prop :=
  ∀ (w : Word) (start length value : Nat) (h : start + length ≤ 32),
    getField (setField w start length value h) start length h = value % 2 ^ length ∧
    (∀ k, ¬(start ≤ k ∧ k < start + length) →
      (setField w start length value h).getLsbD k = w.getLsbD k) ∧
    setField (setField w start length value h) start length value h = setField w start length value h ∧
    (∀ (start' length' value' : Nat) (h' : start' + length' ≤ 32),
      start + length ≤ start' ∨ start' + length' ≤ start →
      setField (setField w start length value h) start' length' value' h'
        = setField (setField w start' length' value' h') start length value h) ∧
    getField w start length h < 2 ^ length

/-- `tdiv` truncates toward zero (R8): the remainder is smaller than the divisor and has the sign of the
dividend. -/
def Obligations.DivisionTruncatesTowardZero : Prop :=
  ∀ a b : Int, b ≠ 0 →
    ∃ r : Int, a = b * tdiv a b + r ∧ r.natAbs < b.natAbs ∧ (r = 0 ∨ r.sign = a.sign)

/-- `Rand(lo, hi)` (R73): every draw is in the closed range, every value of the range is a draw of some
environment, and a draw changes nothing but the environment's side. -/
def Obligations.RandomDrawsFillTheClosedRange : Prop :=
  ∀ (lo hi : Int) (s : State), lo ≤ hi →
    (lo ≤ (rand lo hi s).1 ∧ (rand lo hi s).1 ≤ hi) ∧
    (rand lo hi s).2 = { s with env := s.env.afterDraw } ∧
    ∀ r, lo ≤ r → r ≤ hi →
      (rand lo hi { s with env := { s.env with draws := r :: s.env.draws } }).1 = r

/-! ## The Divider Engine -/

/-- The result of the divider loop (R152): a power of two up to 64, the smallest one above the ratio, so
that the VCO frequency lies in `(2.2 GHz, 4.4 GHz]` where it is not 1. -/
def Obligations.OutputDividerIsSmallestPowerAboveRatio : Prop :=
  ∀ f : Nat, Config.fOutMin ≤ f →
    (outputDivider f).1 = 2 ^ (outputDivider f).2 ∧ (outputDivider f).2 ≤ 6 ∧
    2200000000 / f < (outputDivider f).1 ∧
    ((outputDivider f).1 = 1 ↔ 2200000000 < f) ∧
    ((outputDivider f).1 ≠ 1 →
      (outputDivider f).1 / 2 ≤ 2200000000 / f ∧
      2200000000 < f * (outputDivider f).1 ∧ f * (outputDivider f).1 ≤ 2 * 2200000000)

/-- R164: whenever the engine succeeds, `Mod` and `Frac` are in range; and for a channel step that divides
the phase-detector frequency evenly into at most 4095 parts the achieved frequency is within one step of
the requested one. A failure is one of the engine's typed reasons. -/
def Obligations.EngineNeverSilentlyWrong : Prop :=
  ∀ (par : Params) (c : Cfg) (f : Int) (s : Nat),
    (∀ p, engineEval par c f s = .ok p →
      2 ≤ p.mod ∧ p.mod ≤ 4095 ∧ p.frac ≤ p.mod - 1 ∧
      (if p.presc then 75 else 23) ≤ p.nint ∧ p.nint ≤ 65535 ∧
      LegalFreq par f ∧ phaseDetectorOf par c = .ok p.pfd ∧ p.step = s ∧
      (p.mismatch = true ↔ p.achieved ≠ f) ∧
      ∀ m : Nat, p.pfd = (m : Rat) * s → m ≤ 4095 → |p.achieved - f| ≤ s) ∧
    (∀ e, engineEval par c f s = .error e →
      e = .freqRange ∨ e = .pfdRange ∨ e = .modRange ∨ e = .fracRange ∨ e = .nintRange)

/-- The rounding bound that R158 derives: the achieved frequency of a plan with `mod0 ≥ 1` differs from
the requested one by at most `pfd / (2 × mod0 × div)`. -/
def Obligations.AchievedFrequencyWithinRoundingBound : Prop :=
  ∀ (pfd : Rat) (f s : Nat), 0 < pfd → 1 ≤ rhu (pfd / s) →
    |(enginePlan pfd f s).achieved - f|
      ≤ pfd / (2 * rhu (pfd / s) * (enginePlan pfd f s).div)

/-- `ERR_FRAC_RANGE` is unreachable (R163 (b)): a fraction that rounds up to the modulus fails the modulus
check first. -/
def Obligations.FractionFailureUnreachable : Prop :=
  ∀ (par : Params) (c : Cfg) (f : Int) (s : Nat), engineEval par c f s ≠ .error .fracRange

/-- R157: the reduction, its idempotence, and that it keeps the fraction's value. -/
def Obligations.FractionReduction : Prop :=
  ∀ frac0 mod0 : Nat,
    (frac0 = 0 → reduceFraction frac0 mod0 = (0, mod0)) ∧
    (frac0 ≠ 0 →
      reduceFraction frac0 mod0 = (frac0 / Nat.gcd frac0 mod0, mod0 / Nat.gcd frac0 mod0) ∧
      Nat.gcd (reduceFraction frac0 mod0).1 (reduceFraction frac0 mod0).2 = 1) ∧
    reduceFraction (reduceFraction frac0 mod0).1 (reduceFraction frac0 mod0).2
      = reduceFraction frac0 mod0 ∧
    (reduceFraction frac0 mod0).1 * mod0 = frac0 * (reduceFraction frac0 mod0).2

/-- R162: the engine's results by naturals alone, with `B` and `C` the numerator and the denominator of
the phase-detector frequency. -/
def Obligations.IntegerOnlyFormAgrees : Prop :=
  ∀ (par : Params) (c : Cfg),
    let b := c.ref.toNat * (1 + c.doubler.toNat)
    let k := c.rcount.toNat * (1 + c.div2.toNat)
    ((∃ pfd, phaseDetectorOf par c = .ok pfd) ↔
      1 ≤ k ∧ par.pfdMin * k ≤ b ∧ (b : Rat) ≤ par.pfdMax * k) ∧
    ∀ (pfd : Rat) (f s : Nat), phaseDetectorOf par c = .ok pfd → 1 ≤ s →
      let p := enginePlan pfd f s
      let a := f * p.div * k
      let mod0 := (2 * b + k * s) / (2 * k * s)
      let frac0 := (2 * (a % b) * mod0 + b) / (2 * b)
      p.nint = a / b ∧ (p.frac, p.mod) = reduceFraction frac0 mod0 ∧
      (p.mod ≠ 0 →
        p.achieved = (b * (p.nint * p.mod + p.frac) : Nat) / (k * p.mod * p.div : Nat) ∧
        (p.mismatch = true ↔ b * (p.nint * p.mod + p.frac) ≠ f * k * p.mod * p.div))

/-- R154: the phase-detector frequency and its range check. -/
def Obligations.PhaseDetectorRangeCheck : Prop :=
  ∀ (par : Params) (c : Cfg),
    let pfd : Rat := (c.ref.toNat * (1 + c.doubler.toNat) : Nat) / (c.rcount.toNat * (1 + c.div2.toNat) : Nat)
    (c.rcount = 0 → phaseDetectorOf par c = .error .pfdRange) ∧
    (c.rcount ≠ 0 → pfd < par.pfdMin ∨ par.pfdMax < pfd → phaseDetectorOf par c = .error .pfdRange) ∧
    (c.rcount ≠ 0 → par.pfdMin ≤ pfd → pfd ≤ par.pfdMax → phaseDetectorOf par c = .ok pfd)

/-- The order of the engine's checks (R159, R160): frequency, phase detector, zero step and modulus, then
the integer divider by the prescaler; the fraction check between them never fails (R163 (b)). -/
def Obligations.EngineReportsFirstFailingCheck : Prop :=
  ∀ (par : Params) (c : Cfg) (f : Int) (s : Nat),
    (¬LegalFreq par f → engineEval par c f s = .error .freqRange) ∧
    (LegalFreq par f → (∃ e, phaseDetectorOf par c = .error e) →
      engineEval par c f s = .error .pfdRange) ∧
    ∀ pfd, LegalFreq par f → phaseDetectorOf par c = .ok pfd →
      let p := enginePlan pfd f.toNat s
      let nmin := if 3600000000 < f.toNat * p.div then 75 else 23
      (s = 0 → engineEval par c f s = .error .modRange) ∧
      (s ≠ 0 → p.mod < 2 ∨ 4095 < p.mod → engineEval par c f s = .error .modRange) ∧
      (s ≠ 0 → 2 ≤ p.mod → p.mod ≤ 4095 → p.nint < nmin ∨ 65535 < p.nint →
        engineEval par c f s = .error .nintRange) ∧
      (s ≠ 0 → 2 ≤ p.mod → p.mod ≤ 4095 → nmin ≤ p.nint → p.nint ≤ 65535 →
        engineEval par c f s = .ok p)

/-- The source's worked example (S1) and the reduced fraction of V11, at the parameters of reset. -/
def Obligations.EngineWorkedExamples : Prop :=
  ∀ c : Cfg, c.ref = 10000000 → c.rcount = 1 → c.doubler = false → c.div2 = false →
    engineEval State.reset.par c 102500000 10000 = .ok
      { nint := 328, frac := 0, mod := 1000, rfdivsel := 5, div := 32, presc := false, pfd := 10000000
        achieved := 102500000, mismatch := false, step := 10000 } ∧
    engineEval State.reset.par c 433920000 10000 = .ok
      { nint := 347, frac := 17, mod := 125, rfdivsel := 3, div := 8, presc := false, pfd := 10000000
        achieved := 433920000, mismatch := false, step := 10000 }

/-- R100 to R106: what every field of the six words reads after `Pack`, and that every bit no table
names keeps what it held. -/
def Obligations.PackLaysOutTheSixWords : Prop :=
  ∀ (c : Cfg) (p : Plan) (r : Vector Word 6),
    p.frac ≤ 4095 → p.mod ≤ 4095 → p.nint ≤ 65535 → p.rfdivsel ≤ 6 →
    let q := packRegs c p r
    let z := if p.frac = 0 then 1 else 0
    (getField q[0] 0 3 = 0 ∧ getField q[0] 3 12 = p.frac ∧ getField q[0] 15 16 = p.nint) ∧
    (getField q[1] 0 3 = 1 ∧ getField q[1] 3 12 = p.mod ∧ getField q[1] 15 12 = c.phase.toNat ∧
      getField q[1] 27 1 = p.presc.toNat) ∧
    (getField q[2] 0 3 = 2 ∧ getField q[2] 6 1 = 1 ∧ getField q[2] 7 1 = z ∧ getField q[2] 8 1 = z ∧
      getField q[2] 9 4 = 7 ∧ getField q[2] 14 10 = c.rcount.toNat ∧ getField q[2] 24 1 = c.div2.toNat ∧
      getField q[2] 25 1 = c.doubler.toNat ∧ getField q[2] 26 3 = 6) ∧
    (getField q[3] 0 3 = 3 ∧ getField q[3] 3 12 = c.clkdiv.toNat ∧ getField q[3] 21 1 = z ∧
      getField q[3] 22 1 = z ∧ getField q[3] 23 1 = 1) ∧
    (getField q[4] 0 3 = 4 ∧ getField q[4] 3 2 = c.power.toNat ∧ getField q[4] 5 1 = 1 ∧
      getField q[4] 11 1 = 0 ∧ getField q[4] 12 8 = c.bscd.toNat ∧ getField q[4] 20 3 = p.rfdivsel ∧
      getField q[4] 23 1 = 1) ∧
    (getField q[5] 0 3 = 5 ∧ getField q[5] 19 2 = 3 ∧ getField q[5] 22 2 = 1 ∧
      (r[5] = 0 ∨ r[5] = 0x00580005 → q[5] = 0x00580005)) ∧
    ∀ (i : RegIdx) (k : Nat), Config.packsBit i k = false → q[i].getLsbD k = r[i].getLsbD k

/-! ## The resolver, the commit, the retune -/

/-- R191 to R195: the candidates in their order (the gcd where asked for, the dividing steps from largest
to smallest, all steps from smallest to largest), the first that the engine accepts wins, and
`ERR_NO_STEP` exactly where none is accepted; at most `1 + 2 × K` evaluations. -/
def Obligations.ResolverSearchOrder : Prop :=
  ∀ (par : Params) (c : Cfg) (f : Int) (useGcd : Bool),
    let order := (if useGcd then [Nat.gcd f.toNat c.ref.toNat] else [])
      ++ (par.steps.reverse.filter fun s => decide (f.toNat % s = 0)) ++ par.steps
    order.length ≤ 1 + 2 * par.steps.length ∧
    (∀ p, resolve par c f useGcd = .ok p ↔
      ∃ before s after, order = before ++ s :: after ∧ engineEval par c f s = .ok p ∧
        ∀ x ∈ before, ∃ e, engineEval par c f x = .error e) ∧
    (∀ e, resolve par c f useGcd = .error e ↔
      e = .noStep ∧ ∀ x ∈ order, ∃ e', engineEval par c f x = .error e')

/-- The first clause of R196: a step the resolver accepts is an allowed step, or the gcd candidate where
the heuristic was asked for. -/
def Obligations.ResolverStepPolicy : Prop :=
  ∀ (par : Params) (c : Cfg) (f : Int) (useGcd : Bool) (p : Plan), resolve par c f useGcd = .ok p →
    p.step ∈ par.steps ∨ (useGcd = true ∧ p.step = Nat.gcd f.toNat c.ref.toNat)

/-- The evaluation of a `Retune` (R197, R198): a frequency or a reference out of range is reported as such
before any search; then the step mode says whether the engine runs once with `cfg.step` or the resolver
searches, with the divisor heuristic or without. A step that fits 64 bits is kept in `cfg.step` as it is
(one that does not is a free value, log 22). -/
def Obligations.RetuneEvaluatesByStepMode : Prop :=
  ∀ (par : Params) (c : Cfg) (f : Int),
    (¬LegalFreq par f → retunePlan par c f = .error .freqRange) ∧
    (LegalFreq par f → (∃ e, phaseDetectorOf par c = .error e) → retunePlan par c f = .error .pfdRange) ∧
    ∀ pfd, LegalFreq par f → phaseDetectorOf par c = .ok pfd →
      (c.stepMode = .direct → retunePlan par c f = engineEval par c f c.step.toNat) ∧
      (c.stepMode = .resolve → retunePlan par c f = resolve par c f false) ∧
      (c.stepMode = .resolveGcd → retunePlan par c f = resolve par c f true) ∧
      (c.stepMode ≠ .direct → ∀ e, retunePlan par c f = .error e → e = .noStep) ∧
      ∀ p, retunePlan par c f = .ok p → p.step < 2 ^ 64 → (storeStep p.step).toNat = p.step

/-- R81: a commit writes the images in the order 5, 4, 3, 2, 1, 0, stops at the first write that fails,
succeeds exactly where none does, and changes nothing but the log (and the answers consumed). -/
def Obligations.CommitWritesInDescendingOrder : Prop :=
  ∀ s : State,
    ((∀ k < 6, s.answer k = true) →
      commit s = (true, { s with
        xlog := s.xlog ++ commitEntries s s.regs 6, env := s.env.afterWrites 6 })) ∧
    (∀ k < 6, (∀ j < k, s.answer j = true) → s.answer k = false →
      commit s = (false, { s with
        xlog := s.xlog ++ commitEntries s s.regs (k + 1), env := s.env.afterWrites (k + 1) }))

/-! ## Setting the output frequency -/

/-- R251 to R254, R197: with no law active and a plan found, a `SET_FREQ*` packs and commits all six
registers, records step mode, step, plan and frequency, and sets the four glide frequencies. -/
def Obligations.SetFreqTunes : Prop :=
  ∀ (s : State) (f step : Operand),
    Tunes (.setFreq f) f s (withMode s .resolve s.cfg.step) ∧
    Tunes (.setFreqGcd f) f s (withMode s .resolveGcd s.cfg.step) ∧
    Tunes (.setFreqStep f step) f s (withMode s .direct step) ∧
    wordIs (.setFreq f) 0x01 f.toNat 0 ∧ wordIs (.setFreqGcd f) 0x02 f.toNat 0 ∧
    wordIs (.setFreqStep f step) 0x03 f.toNat step.toNat

/-- R81, R251, R293: a `SET_FREQ*` that finds no plan records the reason, keeps the glide frequencies,
clears `locked` and writes nothing to the device; one whose commit loses write `k` leaves the images
packed, `k + 1` entries in the log, and `committed` and the glide frequencies as they were. -/
def Obligations.SetFreqFailuresKeepFrequencies : Prop :=
  ∀ (s : State) (f step : Operand),
    (FailsToPlan (.setFreq f) f s (withMode s .resolve s.cfg.step) ∧
      FailsToPlan (.setFreqGcd f) f s (withMode s .resolveGcd s.cfg.step) ∧
      FailsToPlan (.setFreqStep f step) f s (withMode s .direct step)) ∧
    FailsToCommit (.setFreq f) f s (withMode s .resolve s.cfg.step) ∧
    FailsToCommit (.setFreqGcd f) f s (withMode s .resolveGcd s.cfg.step) ∧
    FailsToCommit (.setFreqStep f step) f s (withMode s .direct step)

/-- R251: with a law active a `SET_FREQ*` records the frequency, moves the setpoint where no waveform law
derives it, and writes nothing to the device. -/
def Obligations.SetFreqGlidePath : Prop :=
  ∀ (s : State) (f step : Operand),
    TakesGlidePath (.setFreq f) f s (withMode s .resolve s.cfg.step) ∧
    TakesGlidePath (.setFreqGcd f) f s (withMode s .resolveGcd s.cfg.step) ∧
    TakesGlidePath (.setFreqStep f step) f s (withMode s .direct step)

/-- R251, R293: a frequency outside the limits fails `ERR_FREQ_RANGE` and changes nothing else. -/
def Obligations.SetFreqOutOfRangeChangesNothing : Prop :=
  ∀ (s : State) (f step : Operand), ¬LegalFreq s.par (unsigned f) →
    exec (.setFreq f) s = .next { s with rsp := failure .freqRange } ∧
    exec (.setFreqGcd f) s = .next { s with rsp := failure .freqRange } ∧
    exec (.setFreqStep f step) s = .next { s with rsp := failure .freqRange }

/-! ## Configuration, output, laws, queries -/

/-- R255: `SET_REF` stores its four operands exactly where their phase-detector frequency is in range,
and nothing otherwise. -/
def Obligations.SetRefStoresOnlyValidReferences : Prop :=
  ∀ (s : State) (ref : Operand) (rcount : BitVec 10) (doubler div2 : Bool),
    let pfd : Rat := (ref.toNat * (1 + doubler.toNat) : Nat) / (rcount.toNat * (1 + div2.toNat) : Nat)
    wordIs (.setRef ref rcount doubler div2) 0x08 ref.toNat
      (rcount.toNat + 2 ^ 10 * doubler.toNat + 2 ^ 11 * div2.toNat) ∧
    (rcount = 0 → exec (.setRef ref rcount doubler div2) s = .next { s with rsp := failure .pfdRange }) ∧
    (rcount ≠ 0 → pfd < s.par.pfdMin ∨ s.par.pfdMax < pfd →
      exec (.setRef ref rcount doubler div2) s = .next { s with rsp := failure .pfdRange }) ∧
    (rcount ≠ 0 → s.par.pfdMin ≤ pfd → pfd ≤ s.par.pfdMax →
      exec (.setRef ref rcount doubler div2) s = .next
        { s with
          cfg := { s.cfg with ref := ref, rcount := rcount, doubler := doubler, div2 := div2 }
          rsp := plainOk })

/-- R256, R257, R258: `SET_CLOCKS`, `SET_POWER` and `SET_PHASE` store their operands and change nothing
else. -/
def Obligations.ClocksPowerPhaseStoreOperands : Prop :=
  ∀ (s : State) (bscd : BitVec 8) (clkdiv : BitVec 12) (power : BitVec 2) (phase : BitVec 12),
    exec (.setClocks bscd clkdiv) s
      = .next { s with cfg := { s.cfg with bscd := bscd, clkdiv := clkdiv }, rsp := plainOk } ∧
    exec (.setPower power) s = .next { s with cfg := { s.cfg with power := power }, rsp := plainOk } ∧
    exec (.setPhase phase) s = .next { s with cfg := { s.cfg with phase := phase }, rsp := plainOk } ∧
    wordIs (.setClocks bscd clkdiv) 0x09 0 (bscd.toNat + 2 ^ 8 * clkdiv.toNat) ∧
    wordIs (.setPower power) 0x0A 0 power.toNat ∧ wordIs (.setPhase phase) 0x0B 0 phase.toNat

/-- R259, R260: `ENABLE_OUT` and `DISABLE_OUT` write bit 5 and the address of register 4's image, send the
word to index 4, and change nothing else. -/
def Obligations.OutputKeyingWritesRegisterFour : Prop :=
  ∀ s : State,
    let addressed := setField (s.readReg 4) 0 3 4
    exec .enableOut s
      = .next { written 4 (setField addressed 5 1 1) s with rsp := writeResponse (s.answer 0) } ∧
    exec .disableOut s
      = .next { written 4 (setField addressed 5 1 0) s with rsp := writeResponse (s.answer 0) } ∧
    wordIs .enableOut 0x0C 0 0 ∧ wordIs .disableOut 0x0D 0 0

/-- R230, R261: `LOCK_ASSIST` sets the lock-assist bit and the address of its register's image, sends the
word, and sets `locked` whether or not the write succeeded. -/
def Obligations.LockAssistCommand : Prop :=
  ∀ s : State,
    exec .lockAssist s = .next
      { written s.par.lockAssistReg (assistWord s) s with
        g := { s.g with locked := true }, rsp := writeResponse (s.answer 0) } ∧
    (assistWord s).getLsbD s.par.lockAssistBit.val = true ∧
    getField (assistWord s) 0 3 = s.par.lockAssistReg.val ∧
    wordIs .lockAssist 0x0E 0 0 ∧
    ∀ k, 3 ≤ k → k ≠ s.par.lockAssistBit.val →
      (assistWord s).getLsbD k = (s.readReg s.par.lockAssistReg).getLsbD k

/-- R262 to R265: the glide-law operations; a zero parameter is as `GLIDE_OFF`. The magnitude of
`GLIDE_CONST` is the truncated quotient wherever that fits its 64 bits (what it is otherwise is a free
value, log 9). -/
def Obligations.GlideLawSelection : Prop :=
  ∀ (s : State) (n : Operand),
    let off : State := { s with
      g := { s.g with glideLaw := .none, glideParam := 0, constMag := 0, glideStart := s.g.current }
      rsp := plainOk }
    (wordIs .glideOff 0x10 0 0 ∧ wordIs (.glideLinear n) 0x11 n.toNat 0 ∧
      wordIs (.glideExp n) 0x12 n.toNat 0 ∧ wordIs (.glideConst n) 0x13 n.toNat 0) ∧
    exec .glideOff s = .next off ∧
    (n = 0 → exec (.glideLinear n) s = .next off ∧ exec (.glideExp n) s = .next off ∧
      exec (.glideConst n) s = .next off) ∧
    (n ≠ 0 →
      exec (.glideLinear n) s = .next { s with
        g := { s.g with glideLaw := .linear, glideParam := n, constMag := 0, glideStart := s.g.current }
        rsp := plainOk } ∧
      exec (.glideExp n) s = .next { s with
        g := { s.g with glideLaw := .exp, glideParam := n, constMag := 0, glideStart := s.g.current }
        rsp := plainOk } ∧
      ∃ mag : Operand,
        exec (.glideConst n) s = .next { s with
          g := { s.g with glideLaw := .const, glideParam := n, constMag := mag, glideStart := s.g.current }
          rsp := plainOk } ∧
        ((s.g.setpoint - s.g.current).natAbs / n.toNat < 2 ^ 64 →
          mag.toNat = (s.g.setpoint - s.g.current).natAbs / n.toNat))

/-- R266 to R270: the waveform-law operations; a zero parameter is as `WAVE_OFF`, which returns the
setpoint to `g.base` through the hook of R218. -/
def Obligations.WaveLawSelection : Prop :=
  ∀ (s : State) (a : Operand),
    let off : State := { s with
      g := hooked { s.g with waveLaw := .none, waveParam := 0 } s.g.base, rsp := plainOk }
    (wordIs .waveOff 0x18 0 0 ∧ wordIs (.waveRamp a) 0x19 a.toNat 0 ∧ wordIs (.waveSine a) 0x1A a.toNat 0 ∧
      wordIs (.waveTri a) 0x1B a.toNat 0 ∧ wordIs (.waveRandom a) 0x1C a.toNat 0) ∧
    exec .waveOff s = .next off ∧
    (a = 0 → exec (.waveRamp a) s = .next off ∧ exec (.waveSine a) s = .next off ∧
      exec (.waveTri a) s = .next off ∧ exec (.waveRandom a) s = .next off) ∧
    (a ≠ 0 →
      exec (.waveRamp a) s
        = .next { s with g := { s.g with waveLaw := .ramp, waveParam := a }, rsp := plainOk } ∧
      exec (.waveSine a) s
        = .next { s with g := { s.g with waveLaw := .sine, waveParam := a }, rsp := plainOk } ∧
      exec (.waveTri a) s
        = .next { s with g := { s.g with waveLaw := .tri, waveParam := a }, rsp := plainOk } ∧
      exec (.waveRandom a) s
        = .next { s with g := { s.g with waveLaw := .random, waveParam := a }, rsp := plainOk })

/-- R271, R272: `SET_DITHER` and `SET_PHASE_STEP` store their operands and change nothing else. -/
def Obligations.DitherAndPhaseStepStoreOperands : Prop :=
  ∀ (s : State) (v : Operand),
    exec (.setDither v) s = .next { s with g := { s.g with dither := v }, rsp := plainOk } ∧
    exec (.setPhaseStep v) s = .next { s with g := { s.g with phaseStep := v }, rsp := plainOk } ∧
    wordIs (.setDither v) 0x1D v.toNat 0 ∧ wordIs (.setPhaseStep v) 0x1E v.toNat 0

/-- R273: `GET_REG i` answers the image of register `i`, zero-extended, and changes nothing; an `i` above
5 is refused (R111). -/
def Obligations.GetRegReadsImages : Prop :=
  ∀ (s : State) (i : BitVec 3),
    (∀ r : RegIdx, i.toNat = r.val →
      exec (.getReg i) s
        = .next { s with rsp := { status := .ok, mismatch := false, data := (s.readReg r).setWidth 64 } }) ∧
    (5 < i.toNat → exec (.getReg i) s = .next { s with rsp := failure .badCommand }) ∧
    wordIs (.getReg i) 0x20 0 i.toNat

/-- R274: `GET_PLAN sel` answers the selected field modulo `2^64`, or the failure the plan register holds,
and changes nothing; a `sel` above 11 is refused (R111). -/
def Obligations.GetPlanReadsResult : Prop :=
  ∀ (s : State) (sel : BitVec 4),
    wordIs (.getPlan sel) 0x21 0 sel.toNat ∧
    (11 < sel.toNat → exec (.getPlan sel) s = .next { s with rsp := failure .badCommand }) ∧
    (sel.toNat ≤ 11 → s.plan = .none → exec (.getPlan sel) s = .next { s with rsp := failure .noPlan }) ∧
    (sel.toNat ≤ 11 → ∀ e, s.plan = .failed e → exec (.getPlan sel) s = .next { s with rsp := failure e }) ∧
    (∀ p, s.plan = .ok p →
      ∀ nv ∈ ([(0, p.nint), (1, p.frac), (2, p.mod), (3, p.rfdivsel), (4, p.div), (5, p.presc.toNat),
          (6, p.pfd.num), (7, p.pfd.den), (8, p.achieved.num), (9, p.achieved.den),
          (10, p.mismatch.toNat), (11, p.step)] : List (Nat × Int)),
        sel.toNat = nv.1 →
          ∃ t : State, exec (.getPlan sel) s = .next t ∧
            t = { s with rsp := t.rsp } ∧ t.rsp.status = .ok ∧ t.rsp.mismatch = false ∧
            (t.rsp.data.toNat : Int) = nv.2 % 2 ^ 64)

/-! ## The tick -/

/-- R211: with no law active a tick does nothing but answer `OK`. -/
def Obligations.IdleTickDoesNothing : Prop :=
  ∀ (s : State) (dt : Operand), wordIs (.tick dt) 0x00 0 dt.toNat ∧
    (NoLaw s → exec (.tick dt) s = .next { s with rsp := plainOk })

/-- R212 to R218: what steps 2 and 3 of a tick leave in the glide group, whatever steps 5 to 7 then do. -/
def Obligations.TickDerivesSetpoint : Prop :=
  ∀ (s : State) (dt : Operand), ¬NoLaw s →
    let phase := (s.g.phaseAcc + s.g.phaseStep.toNat) % s.par.tableLen
    let amp : Int := (s.g.waveParam.toNat : Int)
    ∃ (t : State) (v : Int), exec (.tick dt) s = .next t ∧
      t.g = { hooked s.g v with phaseAcc := phase, current := t.g.current, locked := t.g.locked } ∧
      (s.g.waveLaw = .none → v = s.g.setpoint) ∧
      (s.g.waveLaw = .ramp →
        v = s.g.base + ((phase * s.g.waveParam.toNat / s.par.tableLen : Nat) : Int)) ∧
      (s.g.waveLaw = .sine →
        ∃ x, s.par.table[phase]? = some x ∧ v = s.g.base + tdiv (x * amp) s.par.tableScale) ∧
      (s.g.waveLaw = .tri → s.par.tri = .standard → s.g.waveParam ≠ 0 →
        v = s.g.base + 2 * min ((phase % s.g.waveParam.toNat : Nat) : Int)
          (amp - (phase % s.g.waveParam.toNat : Nat))) ∧
      (s.g.waveLaw = .tri → ∀ id, s.par.tri = .other id →
        v = s.g.base + Config.triOffset id phase s.g.waveParam.toNat) ∧
      (s.g.waveLaw = .random → s.g.base ≤ v ∧ v ≤ s.g.base + amp ∧
        (0 ≤ s.nextDraw → s.nextDraw ≤ amp → v = s.g.base + s.nextDraw))

/-- R219 to R223: what step 4 of a tick makes of `current`, from the setpoint, the glide start and the
magnitude that steps 2 and 3 left, whatever steps 5 to 7 then do. -/
def Obligations.TickAdvancesCurrent : Prop :=
  ∀ (s : State) (dt : Operand), ¬NoLaw s →
    ∃ t : State, exec (.tick dt) s = .next t ∧
      let dist := t.g.setpoint - s.g.current
      (s.g.glideLaw = .none → t.g.current = t.g.setpoint) ∧
      (s.g.glideLaw = .exp → t.g.current = s.g.current + tdiv dist s.g.glideParam.toNat) ∧
      (s.g.glideLaw = .linear →
        let stride := tdiv (t.g.setpoint - t.g.glideStart) s.g.glideParam.toNat
        (|stride| < |dist| → t.g.current = s.g.current + stride) ∧
        (|dist| ≤ |stride| → t.g.current = t.g.setpoint)) ∧
      (s.g.glideLaw = .const →
        let adv : Int := max 1 ((t.g.constMag.toNat * dt.toNat / s.par.tickUnit : Nat) : Int)
        (|dist| ≤ adv → t.g.current = t.g.setpoint) ∧
        (adv < |dist| → t.g.current = s.g.current + dist.sign * adv))

/-- R227, R231: steps 2 to 5 of a tick change only the glide group and the environment's side. The target
is `current` plus one draw of `Rand(−dither, dither)`, which is added and not latched; with no dither
amplitude it is `current` and no draw is made. -/
def Obligations.TickTargetIsCurrentPlusDither : Prop :=
  ∀ (s : State) (dt : Operand),
    let moved := moveFrequency dt s
    let r := tickTarget moved
    r.2 = { s with g := moved.g, env := r.2.env } ∧ r.2.env.oks = s.env.oks ∧
    r.2.env.asked = s.env.asked ∧ r.2.env.drawn ≤ s.env.drawn + 2 ∧
    (s.g.dither = 0 → r.1 = moved.g.current ∧ r.2 = moved) ∧
    (s.g.dither ≠ 0 → r.2.env = moved.env.afterDraw ∧
      (-(s.g.dither.toNat : Int) ≤ moved.nextDraw → moved.nextDraw ≤ s.g.dither.toNat →
        r.1 = moved.g.current + moved.nextDraw)) ∧
    |r.1 - moved.g.current| ≤ s.g.dither.toNat

/-- R228: a tick whose target differs from `committed` and has a plan packs and commits all six
registers and clears `locked`. -/
def Obligations.TickRetunes : Prop :=
  ∀ (s : State) (dt : Operand) (p : Plan), ¬NoLaw s →
    let r := tickTarget (moveFrequency dt s)
    (∀ f, s.committed = some f → (f : Int) ≠ r.1) →
    retunePlan s.par s.cfg r.1 = .ok p → (∀ k < 6, s.answer k = true) →
    exec (.tick dt) s = .next
      { retuned r.1 p r.2 with
        g := { r.2.g with locked := false }
        rsp := { status := .ok, mismatch := p.mismatch, data := 0 } }

/-- R228, R293: a retuning tick that finds no plan, or loses write `k` of its commit, reports the failure,
clears `locked`, keeps `committed`, and keeps what steps 2 to 5 did. -/
def Obligations.TickRetuneFailures : Prop :=
  ∀ (s : State) (dt : Operand), ¬NoLaw s →
    let r := tickTarget (moveFrequency dt s)
    (∀ f, s.committed = some f → (f : Int) ≠ r.1) →
    (∀ e, retunePlan s.par s.cfg r.1 = .error e →
      exec (.tick dt) s = .next
        { r.2 with plan := .failed e, g := { r.2.g with locked := false }, rsp := failure e }) ∧
    (∀ p k, retunePlan s.par s.cfg r.1 = .ok p → k < 6 → (∀ j < k, s.answer j = true) →
      s.answer k = false →
      exec (.tick dt) s = .next
        { retuneCut k p r.2 with g := { r.2.g with locked := false }, rsp := failure .transport })

/-- R229, R230: a tick whose target equals `committed` issues the one lock-assist write where `locked` is
clear, sets `locked` whether or not the write succeeded, and does nothing more where it is set. -/
def Obligations.TickLockAssistOncePerSettling : Prop :=
  ∀ (s : State) (dt : Operand) (f : Nat), ¬NoLaw s →
    let r := tickTarget (moveFrequency dt s)
    s.committed = some f → (f : Int) = r.1 →
    (s.g.locked = false →
      exec (.tick dt) s = .next
        { written s.par.lockAssistReg (assistWord s) r.2 with
          g := { r.2.g with locked := true }, rsp := writeResponse (s.answer 0) }) ∧
    (s.g.locked = true → exec (.tick dt) s = .next { r.2 with rsp := plainOk })

/-- R222, the source's example: a linear glide over a distance that `glideTicks` divides moves by one
equal stride a tick, arrives after exactly `glideTicks` ticks and stays, whatever the elapsed times, the
transport's answers and the dither. -/
def Obligations.LinearGlideTakesExactlyItsTicks : Prop :=
  ∀ (s : State) (q : Int) (dts : List Operand),
    s.g.glideLaw = .linear → s.g.waveLaw = .none → 0 < s.g.glideParam.toNat →
    s.g.glideStart = s.g.current → s.g.setpoint = s.g.current + s.g.glideParam.toNat * q →
    ∃ t, afterTicks dts s = some t ∧
      t.g.current = s.g.current + (min dts.length s.g.glideParam.toNat : Nat) * q

/-- R223: a constant-rate glide never overshoots, comes at least 1 Hz nearer on every tick until it has
arrived, and so is at the setpoint after as many ticks as the distance in hertz, and stays. -/
def Obligations.ConstantRateReachesSetpoint : Prop :=
  ∀ s : State, s.g.glideLaw = .const → s.g.waveLaw = .none →
    (∀ (dt : Operand) (t : State), exec (.tick dt) s = .next t →
      (min s.g.current s.g.setpoint ≤ t.g.current ∧ t.g.current ≤ max s.g.current s.g.setpoint) ∧
      (s.g.setpoint - t.g.current).natAbs ≤ (s.g.setpoint - s.g.current).natAbs - 1) ∧
    ∀ dts : List Operand, (s.g.setpoint - s.g.current).natAbs ≤ dts.length →
      ∃ t, afterTicks dts s = some t ∧ t.g.current = s.g.setpoint

/-- R221, R336: an exponential glide shrinks the distance by its truncated quotient on every tick, stays on
its side of the setpoint, and stops once the distance is below the constant. -/
def Obligations.ExponentialGlideStopsShort : Prop :=
  ∀ (s : State) (dt : Operand), s.g.glideLaw = .exp → s.g.waveLaw = .none → s.g.glideParam ≠ 0 →
    ∃ t : State, exec (.tick dt) s = .next t ∧
      let d := s.g.setpoint - s.g.current
      let d' := s.g.setpoint - t.g.current
      d'.natAbs = d.natAbs - d.natAbs / s.g.glideParam.toNat ∧ (d' = 0 ∨ d'.sign = d.sign) ∧
      (d.natAbs < s.g.glideParam.toNat → t.g.current = s.g.current)

/-- R222, R337: a linear glide over a distance shorter than `glideTicks` never moves. -/
def Obligations.LinearGlideStallsOnShortDistance : Prop :=
  ∀ (s : State) (dts : List Operand),
    s.g.glideLaw = .linear → s.g.waveLaw = .none →
    (s.g.setpoint - s.g.glideStart).natAbs < s.g.glideParam.toNat →
    ∃ t, afterTicks dts s = some t ∧ t.g.current = s.g.current

/-! ## The whole machine -/

/-- R39: every step keeps the invariant. -/
def Obligations.StepKeepsInvariant : Prop :=
  ∀ s t : State, s.Inv → step s = .next t → t.Inv

/-- R39: the invariant holds at reset. -/
def Obligations.ResetMeetsInvariant : Prop := State.reset.Inv

/-- R80, R231: an operation makes no transport write, or one write of an image, or one commit: its writes
in the order 5, 4, 3, 2, 1, 0 of the images it leaves, the last one possibly failed. -/
def Obligations.AtMostOneCommitPerOperation : Prop :=
  ∀ (i : Instr) (s t : State), exec i s = .next t →
    (t.xlog = s.xlog) ∨
    (canWriteRegs i = true ∧ ∃ r : RegIdx,
      t.xlog = s.xlog ++ [{ idx := r, val := t.readReg r, ok := s.answer 0 }]) ∨
    (canRetune i = true ∧ ∃ k < 6, (∀ j < k, s.answer j = true) ∧ (k < 5 → s.answer k = false) ∧
      t.xlog = s.xlog ++ commitEntries s t.regs (k + 1))

/-- R291: which operation can end with which failure. -/
def Obligations.FailureCodesByOperation : Prop :=
  ∀ (i : Instr) (s t : State) (e : Failure), s.Inv → exec i s = .next t → t.rsp.status = .failed e →
    canEndWith i t.cfg.stepMode e = true

/-- R37, R320: no step changes a parameter. -/
def Obligations.ParametersNeverChange : Prop :=
  ∀ s t : State, step s = .next t → t.par = s.par

/-- The write columns of R40, cell by cell: an operation changes only the state that its row of R40 lets
it write, its response, and what it consumes of the environment's side (transport answers, and draws by
`TICK` alone); and, once it is nonzero, the R-counter stays so (R39 (f)). -/
def Obligations.OperationsWriteOnlyTheirState : Prop :=
  ∀ (i : Instr) (s t : State), exec i s = .next t →
    WritesOnly i s t ∧ (s.cfg.rcount ≠ 0 → t.cfg.rcount ≠ 0)

/-- R112, R292: a failure's response carries its code alone; the mismatch bit is set only by an operation
that has just committed a plan with a mismatch, all six of its writes answered and logged, and data only by
a query. -/
def Obligations.ResponseCarriesOnlyWhatIsDue : Prop :=
  ∀ (i : Instr) (s t : State), exec i s = .next t →
    (∀ e, t.rsp.status = .failed e → t.rsp = failure e) ∧
    (t.rsp.mismatch = true → canRetune i = true ∧ t.rsp.status = .ok ∧ t.committed.isSome = true ∧
      (∀ k < 6, s.answer k = true) ∧ t.xlog = s.xlog ++ commitEntries s t.regs 6 ∧
      ∃ p, t.plan = .ok p ∧ p.mismatch = true) ∧
    (t.rsp.data ≠ 0 → isQuery i = true ∧ t.rsp.status = .ok)

/-- R34, R197: `committed` changes only by an operation all six of whose writes succeeded, to a legal
frequency. -/
def Obligations.CommittedOnlyAfterSixWrites : Prop :=
  ∀ (i : Instr) (s t : State), exec i s = .next t → t.committed ≠ s.committed →
    canRetune i = true ∧ (∀ k < 6, s.answer k = true) ∧
    t.xlog = s.xlog ++ commitEntries s t.regs 6 ∧
    ∃ (f : Nat) (p : Plan), t.committed = some f ∧ LegalFreq s.par f ∧ t.plan = .ok p

/-- R117, R333: no operation clears the lock-assist bit in its register's image. -/
def Obligations.LockAssistBitStaysSet : Prop :=
  ∀ (i : Instr) (s t : State), exec i s = .next t →
    (s.readReg s.par.lockAssistReg).getLsbD s.par.lockAssistBit.val = true →
    (t.readReg t.par.lockAssistReg).getLsbD t.par.lockAssistBit.val = true

/-- R294: no failure is fatal and none is sticky: from every state a step answers a next state. -/
def Obligations.NothingIsFatal : Prop :=
  ∀ s : State, ∃ t, step s = .next t
end

