-- ==== Sys2Proof/Laws/Arith.lean ====
section
/-! SUPPORT. The arithmetic primitives of 00_scope.md R8 in Mathlib's terms. -/

namespace Sys2Proof.Machine

/-- `floorNat` is the natural floor. -/
theorem floorNat_eq (q : Rat) : floorNat q = ⌊q⌋₊ := by
  rw [floorNat, ← Int.floor_toNat]
  rfl

/-- `rhu` is the natural floor of the value plus one half. -/
theorem rhu_eq (q : Rat) : rhu q = ⌊q + 1 / 2⌋₊ := floorNat_eq _

/-- The floor of a quotient of naturals is their natural quotient. -/
theorem floorNat_div (a b : Nat) : floorNat ((a : Rat) / b) = a / b := by
  rw [floorNat_eq, Nat.floor_div_eq_div]

/-- Rounding a quotient of naturals half up, by naturals alone (41_divider_engine.md R162). -/
theorem rhu_div (a b : Nat) (hb : 0 < b) : rhu ((a : Rat) / b) = (2 * a + b) / (2 * b) := by
  have h : (a : Rat) / b + 1 / 2 = ((2 * a + b : Nat) : Rat) / ((2 * b : Nat) : Rat) := by
    have : (b : Rat) ≠ 0 := by exact_mod_cast hb.ne'
    push_cast
    field_simp
  rw [rhu, h, floorNat_div]

/-- A rounded value differs from the exact one by at most one half. -/
theorem rhu_error (q : Rat) (hq : 0 ≤ q) : |(rhu q : Rat) - q| ≤ 1 / 2 := by
  have h1 := Nat.floor_le (by linarith : (0 : Rat) ≤ q + 1 / 2)
  have h2 := Nat.lt_floor_add_one (q + 1 / 2 : Rat)
  rw [rhu_eq, abs_le]
  constructor <;> linarith

/-- `tdiv` is division toward zero wherever R8 defines it. -/
theorem tdiv_eq (a b : Int) (hb : b ≠ 0) : tdiv a b = a.tdiv b := by
  rw [tdiv, if_neg hb]
  rcases Int.natAbs_eq a with ha | ha <;> rcases Int.natAbs_eq b with hb' | hb'
  all_goals
    obtain ⟨m, hm⟩ : ∃ m : Nat, a.natAbs = m := ⟨_, rfl⟩
    obtain ⟨n, hn⟩ : ∃ n : Nat, b.natAbs = n := ⟨_, rfl⟩
    rw [hm] at ha
    rw [hn] at hb'
    subst ha hb'
    have hn0 : n ≠ 0 := by rintro rfl; simp at hb
    rcases Nat.eq_zero_or_pos m with rfl | hm0
    · simp
    · have h1 : (m : Int).sign = 1 := Int.sign_eq_one_of_pos (by exact_mod_cast hm0)
      have h2 : (n : Int).sign = 1 := Int.sign_eq_one_of_pos (by omega)
      simp [h1, h2, Int.tdiv_neg, Int.neg_tdiv]

/-- On naturals `tdiv` is floor division. -/
theorem tdiv_natCast (a b : Nat) (hb : 0 < b) : tdiv (a : Int) (b : Int) = ((a / b : Nat) : Int) := by
  rw [tdiv_eq _ _ (by omega)]
  rfl

/-- The size of a truncated quotient. -/
theorem tdiv_natAbs (a : Int) (b : Nat) (hb : 0 < b) : (tdiv a b).natAbs = a.natAbs / b := by
  rw [tdiv_eq _ _ (by omega), Int.natAbs_tdiv, Int.natAbs_natCast]
  rfl

/-- `mod` wherever R8 defines it. -/
theorem natMod_eq (a b : Nat) (hb : 0 < b) : natMod a b = a % b := if_neg hb.ne'

end Sys2Proof.Machine
end

