-- ==== Sys2Proof/Laws/Bitfield.lean ====
section
/-! SUPPORT. `SetField` and `GetField` bit by bit (40_bitfield.md R142, R143). -/

namespace Sys2Proof.Machine

/-- A bit of `SetField`'s mask: set exactly inside the span. -/
theorem spanMask_getLsbD (start length k : Nat) (hk : k < 32) :
    (BitVec.ofNat 32 ((2 ^ length - 1) * 2 ^ start)).getLsbD k
      = (decide (start ≤ k) && decide (k < start + length)) := by
  rw [BitVec.getLsbD_ofNat, Nat.testBit_mul_two_pow, Nat.testBit_two_pow_sub_one]
  by_cases h : start ≤ k
  · simp [hk, h, Nat.sub_lt_iff_lt_add h, Nat.add_comm]
  · simp [h]

/-- A bit of the value that `SetField` shifts into place. -/
theorem spanValue_getLsbD (start length value k : Nat) (hk : k < 32) :
    (BitVec.ofNat 32 (value % 2 ^ length * 2 ^ start)).getLsbD k
      = (decide (start ≤ k) && decide (k < start + length) && value.testBit (k - start)) := by
  rw [BitVec.getLsbD_ofNat, Nat.testBit_mul_two_pow, Nat.testBit_mod_two_pow]
  by_cases h : start ≤ k
  · simp [hk, h, Nat.sub_lt_iff_lt_add h, Nat.add_comm]
  · simp [h]

/-- What `SetField` does to each bit: inside the span the value's bit, outside the word's. -/
theorem setField_getLsbD (w : Word) (start length value : Nat) (h : start + length ≤ 32) (k : Nat) :
    (setField w start length value h).getLsbD k
      = if start ≤ k ∧ k < start + length then value.testBit (k - start) else w.getLsbD k := by
  by_cases hk : k < 32
  · simp only [setField, BitVec.getLsbD_or, BitVec.getLsbD_and, BitVec.getLsbD_not,
      spanMask_getLsbD _ _ _ hk, spanValue_getLsbD _ _ _ _ hk, hk, decide_true, Bool.true_and]
    by_cases h1 : start ≤ k <;> by_cases h2 : k < start + length <;> simp [h1, h2]
  · have : ¬(start ≤ k ∧ k < start + length) := by omega
    simp [this, BitVec.getLsbD_of_ge _ _ (by omega : 32 ≤ k)]

/-- A bit of what `GetField` reads. -/
theorem getField_testBit (w : Word) (start length : Nat) (h : start + length ≤ 32) (k : Nat) :
    (getField w start length h).testBit k = (decide (k < length) && w.getLsbD (start + k)) := by
  simp [getField, Nat.testBit_mod_two_pow, Nat.testBit_div_two_pow, BitVec.getLsbD, Nat.add_comm]

end Sys2Proof.Machine
end

