-- ==== Sys2Proof/Laws/Encoding.lean ====
section
/-! SUPPORT. The three fields of an encoded command word (30_encoding.md R107, R108). -/

namespace Sys2Proof

/-- A bit of a word put together from its three parts (R107). -/
theorem append_getLsbD (op : BitVec 8) (a b : Operand) (k : Nat) :
    BitVec.getLsbD (w := 136) (op ++ a ++ b : BitVec (8 + 64 + 64)) k
      = if k < 64 then b.getLsbD k else if k < 128 then a.getLsbD (k - 64) else op.getLsbD (k - 128) := by
  have h1 : BitVec.getLsbD (w := 136) (op ++ a ++ b : BitVec (8 + 64 + 64)) k
      = if k < 64 then b.getLsbD k else (op ++ a).getLsbD (k - 64) := BitVec.getLsbD_append
  have h2 : (op ++ a).getLsbD (k - 64)
      = if k - 64 < 64 then a.getLsbD (k - 64) else op.getLsbD (k - 64 - 64) := BitVec.getLsbD_append
  have h3 : k - 64 - 64 = k - 128 := by omega
  rw [h1, h2, h3]
  by_cases h : k < 64
  · rw [if_pos h, if_pos h]
  · rw [if_neg h, if_neg h]
    by_cases h' : k < 128
    · rw [if_pos h', if_pos (by omega)]
    · rw [if_neg h', if_neg (by omega)]

/-- The fields of a word put together from its three parts are those parts (R107). -/
theorem fields_append (op : BitVec 8) (a b : Operand) :
    opField (op ++ a ++ b : BitVec (8 + 64 + 64)) = op ∧
    aField (op ++ a ++ b : BitVec (8 + 64 + 64)) = a ∧
    bField (op ++ a ++ b : BitVec (8 + 64 + 64)) = b := by
  refine ⟨?_, ?_, ?_⟩ <;> apply BitVec.eq_of_getLsbD_eq <;> intro k hk
  · rw [opField, BitVec.getLsbD_extractLsb', append_getLsbD, if_neg (by omega), if_neg (by omega)]
    simp [hk]
  · rw [aField, BitVec.getLsbD_extractLsb', append_getLsbD, if_neg (by omega), if_pos (by omega)]
    simp [hk]
  · rw [bField, BitVec.getLsbD_extractLsb', append_getLsbD, if_pos (by omega)]
    simp [hk]

/-- The fields of an encoded operation are its opcode and its two operands (R107, R108, R110). -/
theorem fields_encode (i : Instr) :
    opField (encode i) = i.opcode ∧ aField (encode i) = i.operandA ∧ bField (encode i) = i.operandB :=
  fields_append i.opcode i.operandA i.operandB

end Sys2Proof
end

