-- ==== Sys2Proof/Laws/State.lean ====
section
/-! SUPPORT. What each update of the state leaves in each field: one lemma per field per update, true by
`rfl`, so that no proof unfolds a record update. -/

namespace Sys2Proof.Machine

@[simp] theorem setRegs_regs (s : State) (v : Vector Word 6) : (s.setRegs v).regs = v := rfl
@[simp] theorem setRegs_cfg (s : State) (v : Vector Word 6) : (s.setRegs v).cfg = s.cfg := rfl
@[simp] theorem setRegs_g (s : State) (v : Vector Word 6) : (s.setRegs v).g = s.g := rfl
@[simp] theorem setRegs_plan (s : State) (v : Vector Word 6) : (s.setRegs v).plan = s.plan := rfl
@[simp] theorem setRegs_committed (s : State) (v : Vector Word 6) : (s.setRegs v).committed = s.committed := rfl
@[simp] theorem setRegs_rsp (s : State) (v : Vector Word 6) : (s.setRegs v).rsp = s.rsp := rfl
@[simp] theorem setRegs_xlog (s : State) (v : Vector Word 6) : (s.setRegs v).xlog = s.xlog := rfl
@[simp] theorem setRegs_par (s : State) (v : Vector Word 6) : (s.setRegs v).par = s.par := rfl
@[simp] theorem setRegs_env (s : State) (v : Vector Word 6) : (s.setRegs v).env = s.env := rfl

@[simp] theorem setCfg_regs (s : State) (v : Cfg) : (s.setCfg v).regs = s.regs := rfl
@[simp] theorem setCfg_cfg (s : State) (v : Cfg) : (s.setCfg v).cfg = v := rfl
@[simp] theorem setCfg_g (s : State) (v : Cfg) : (s.setCfg v).g = s.g := rfl
@[simp] theorem setCfg_plan (s : State) (v : Cfg) : (s.setCfg v).plan = s.plan := rfl
@[simp] theorem setCfg_committed (s : State) (v : Cfg) : (s.setCfg v).committed = s.committed := rfl
@[simp] theorem setCfg_rsp (s : State) (v : Cfg) : (s.setCfg v).rsp = s.rsp := rfl
@[simp] theorem setCfg_xlog (s : State) (v : Cfg) : (s.setCfg v).xlog = s.xlog := rfl
@[simp] theorem setCfg_par (s : State) (v : Cfg) : (s.setCfg v).par = s.par := rfl
@[simp] theorem setCfg_env (s : State) (v : Cfg) : (s.setCfg v).env = s.env := rfl

@[simp] theorem setG_regs (s : State) (v : Glide) : (s.setG v).regs = s.regs := rfl
@[simp] theorem setG_cfg (s : State) (v : Glide) : (s.setG v).cfg = s.cfg := rfl
@[simp] theorem setG_g (s : State) (v : Glide) : (s.setG v).g = v := rfl
@[simp] theorem setG_plan (s : State) (v : Glide) : (s.setG v).plan = s.plan := rfl
@[simp] theorem setG_committed (s : State) (v : Glide) : (s.setG v).committed = s.committed := rfl
@[simp] theorem setG_rsp (s : State) (v : Glide) : (s.setG v).rsp = s.rsp := rfl
@[simp] theorem setG_xlog (s : State) (v : Glide) : (s.setG v).xlog = s.xlog := rfl
@[simp] theorem setG_par (s : State) (v : Glide) : (s.setG v).par = s.par := rfl
@[simp] theorem setG_env (s : State) (v : Glide) : (s.setG v).env = s.env := rfl

@[simp] theorem setPlan_regs (s : State) (v : PlanReg) : (s.setPlan v).regs = s.regs := rfl
@[simp] theorem setPlan_cfg (s : State) (v : PlanReg) : (s.setPlan v).cfg = s.cfg := rfl
@[simp] theorem setPlan_g (s : State) (v : PlanReg) : (s.setPlan v).g = s.g := rfl
@[simp] theorem setPlan_plan (s : State) (v : PlanReg) : (s.setPlan v).plan = v := rfl
@[simp] theorem setPlan_committed (s : State) (v : PlanReg) : (s.setPlan v).committed = s.committed := rfl
@[simp] theorem setPlan_rsp (s : State) (v : PlanReg) : (s.setPlan v).rsp = s.rsp := rfl
@[simp] theorem setPlan_xlog (s : State) (v : PlanReg) : (s.setPlan v).xlog = s.xlog := rfl
@[simp] theorem setPlan_par (s : State) (v : PlanReg) : (s.setPlan v).par = s.par := rfl
@[simp] theorem setPlan_env (s : State) (v : PlanReg) : (s.setPlan v).env = s.env := rfl

@[simp] theorem setCommitted_regs (s : State) (v : Option Nat) : (s.setCommitted v).regs = s.regs := rfl
@[simp] theorem setCommitted_cfg (s : State) (v : Option Nat) : (s.setCommitted v).cfg = s.cfg := rfl
@[simp] theorem setCommitted_g (s : State) (v : Option Nat) : (s.setCommitted v).g = s.g := rfl
@[simp] theorem setCommitted_plan (s : State) (v : Option Nat) : (s.setCommitted v).plan = s.plan := rfl
@[simp] theorem setCommitted_committed (s : State) (v : Option Nat) : (s.setCommitted v).committed = v := rfl
@[simp] theorem setCommitted_rsp (s : State) (v : Option Nat) : (s.setCommitted v).rsp = s.rsp := rfl
@[simp] theorem setCommitted_xlog (s : State) (v : Option Nat) : (s.setCommitted v).xlog = s.xlog := rfl
@[simp] theorem setCommitted_par (s : State) (v : Option Nat) : (s.setCommitted v).par = s.par := rfl
@[simp] theorem setCommitted_env (s : State) (v : Option Nat) : (s.setCommitted v).env = s.env := rfl

@[simp] theorem setRsp_regs (s : State) (v : Response) : (s.setRsp v).regs = s.regs := rfl
@[simp] theorem setRsp_cfg (s : State) (v : Response) : (s.setRsp v).cfg = s.cfg := rfl
@[simp] theorem setRsp_g (s : State) (v : Response) : (s.setRsp v).g = s.g := rfl
@[simp] theorem setRsp_plan (s : State) (v : Response) : (s.setRsp v).plan = s.plan := rfl
@[simp] theorem setRsp_committed (s : State) (v : Response) : (s.setRsp v).committed = s.committed := rfl
@[simp] theorem setRsp_rsp (s : State) (v : Response) : (s.setRsp v).rsp = v := rfl
@[simp] theorem setRsp_xlog (s : State) (v : Response) : (s.setRsp v).xlog = s.xlog := rfl
@[simp] theorem setRsp_par (s : State) (v : Response) : (s.setRsp v).par = s.par := rfl
@[simp] theorem setRsp_env (s : State) (v : Response) : (s.setRsp v).env = s.env := rfl

@[simp] theorem setXlog_regs (s : State) (v : List XportEntry) : (s.setXlog v).regs = s.regs := rfl
@[simp] theorem setXlog_cfg (s : State) (v : List XportEntry) : (s.setXlog v).cfg = s.cfg := rfl
@[simp] theorem setXlog_g (s : State) (v : List XportEntry) : (s.setXlog v).g = s.g := rfl
@[simp] theorem setXlog_plan (s : State) (v : List XportEntry) : (s.setXlog v).plan = s.plan := rfl
@[simp] theorem setXlog_committed (s : State) (v : List XportEntry) : (s.setXlog v).committed = s.committed := rfl
@[simp] theorem setXlog_rsp (s : State) (v : List XportEntry) : (s.setXlog v).rsp = s.rsp := rfl
@[simp] theorem setXlog_xlog (s : State) (v : List XportEntry) : (s.setXlog v).xlog = v := rfl
@[simp] theorem setXlog_par (s : State) (v : List XportEntry) : (s.setXlog v).par = s.par := rfl
@[simp] theorem setXlog_env (s : State) (v : List XportEntry) : (s.setXlog v).env = s.env := rfl

@[simp] theorem setEnv_regs (s : State) (v : Env) : (s.setEnv v).regs = s.regs := rfl
@[simp] theorem setEnv_cfg (s : State) (v : Env) : (s.setEnv v).cfg = s.cfg := rfl
@[simp] theorem setEnv_g (s : State) (v : Env) : (s.setEnv v).g = s.g := rfl
@[simp] theorem setEnv_plan (s : State) (v : Env) : (s.setEnv v).plan = s.plan := rfl
@[simp] theorem setEnv_committed (s : State) (v : Env) : (s.setEnv v).committed = s.committed := rfl
@[simp] theorem setEnv_rsp (s : State) (v : Env) : (s.setEnv v).rsp = s.rsp := rfl
@[simp] theorem setEnv_xlog (s : State) (v : Env) : (s.setEnv v).xlog = s.xlog := rfl
@[simp] theorem setEnv_par (s : State) (v : Env) : (s.setEnv v).par = s.par := rfl
@[simp] theorem setEnv_env (s : State) (v : Env) : (s.setEnv v).env = v := rfl

@[simp] theorem endWith_regs (s : State) (st : Status) (m : Bool) (d : Operand) : (s.endWith st m d).regs = s.regs := rfl
@[simp] theorem endWith_cfg (s : State) (st : Status) (m : Bool) (d : Operand) : (s.endWith st m d).cfg = s.cfg := rfl
@[simp] theorem endWith_g (s : State) (st : Status) (m : Bool) (d : Operand) : (s.endWith st m d).g = s.g := rfl
@[simp] theorem endWith_plan (s : State) (st : Status) (m : Bool) (d : Operand) : (s.endWith st m d).plan = s.plan := rfl
@[simp] theorem endWith_committed (s : State) (st : Status) (m : Bool) (d : Operand) : (s.endWith st m d).committed = s.committed := rfl
@[simp] theorem endWith_rsp (s : State) (st : Status) (m : Bool) (d : Operand) :
    (s.endWith st m d).rsp = { status := st, mismatch := m, data := d } := rfl
@[simp] theorem endWith_xlog (s : State) (st : Status) (m : Bool) (d : Operand) : (s.endWith st m d).xlog = s.xlog := rfl
@[simp] theorem endWith_par (s : State) (st : Status) (m : Bool) (d : Operand) : (s.endWith st m d).par = s.par := rfl
@[simp] theorem endWith_env (s : State) (st : Status) (m : Bool) (d : Operand) : (s.endWith st m d).env = s.env := rfl

@[simp] theorem succeed_eq (s : State) (m : Bool) (d : Operand) : s.succeed m d = s.endWith .ok m d := rfl
@[simp] theorem failWith_eq (s : State) (e : Failure) : s.failWith e = s.endWith (.failed e) := rfl

@[simp] theorem clearLocked_regs (s : State) : s.clearLocked.regs = s.regs := rfl
@[simp] theorem clearLocked_cfg (s : State) : s.clearLocked.cfg = s.cfg := rfl
@[simp] theorem clearLocked_g (s : State) : s.clearLocked.g = { s.g with locked := false } := rfl
@[simp] theorem clearLocked_plan (s : State) : s.clearLocked.plan = s.plan := rfl
@[simp] theorem clearLocked_committed (s : State) : s.clearLocked.committed = s.committed := rfl
@[simp] theorem clearLocked_rsp (s : State) : s.clearLocked.rsp = s.rsp := rfl
@[simp] theorem clearLocked_xlog (s : State) : s.clearLocked.xlog = s.xlog := rfl
@[simp] theorem clearLocked_par (s : State) : s.clearLocked.par = s.par := rfl
@[simp] theorem clearLocked_env (s : State) : s.clearLocked.env = s.env := rfl

@[simp] theorem setLocked_regs (s : State) : s.setLocked.regs = s.regs := rfl
@[simp] theorem setLocked_cfg (s : State) : s.setLocked.cfg = s.cfg := rfl
@[simp] theorem setLocked_g (s : State) : s.setLocked.g = { s.g with locked := true } := rfl
@[simp] theorem setLocked_plan (s : State) : s.setLocked.plan = s.plan := rfl
@[simp] theorem setLocked_committed (s : State) : s.setLocked.committed = s.committed := rfl
@[simp] theorem setLocked_rsp (s : State) : s.setLocked.rsp = s.rsp := rfl
@[simp] theorem setLocked_xlog (s : State) : s.setLocked.xlog = s.xlog := rfl
@[simp] theorem setLocked_par (s : State) : s.setLocked.par = s.par := rfl
@[simp] theorem setLocked_env (s : State) : s.setLocked.env = s.env := rfl

/-- Two states with the same fields are the same state. -/
theorem State.ext_fields {s t : State} (hregs : s.regs = t.regs) (hcfg : s.cfg = t.cfg) (hg : s.g = t.g)
    (hplan : s.plan = t.plan) (hcom : s.committed = t.committed) (hrsp : s.rsp = t.rsp)
    (hlog : s.xlog = t.xlog) (hpar : s.par = t.par) (henv : s.env = t.env) : s = t := by
  cases s; cases t; simp_all

end Sys2Proof.Machine
end

