-- ==== Sys2Proof/Laws/Ops.lean ====
section
/-! SUPPORT. What each shared operation can do, said once (20_memory.md R70 to R81; 43_glide_tick.md
R218, R230). -/

namespace Sys2Proof.Machine

/-! ## Register images -/

@[simp] theorem writeReg_regs (s : State) (i : RegIdx) (v : Word) :
    (s.writeReg i v).regs = s.regs.set i.val v i.isLt := rfl

theorem readReg_writeReg (s : State) (i j : RegIdx) (v : Word) :
    (s.writeReg i v).readReg j = if i = j then v else s.readReg j := by
  simp only [State.readReg, writeReg_regs, Fin.getElem_fin, Vector.getElem_set, Fin.ext_iff]

/-! ## The transport -/

theorem nextOk_eq_answer (s : State) : s.nextOk = s.answer 0 := by
  unfold State.nextOk State.answer
  cases s.env.oks <;> simp

/-- `XportWrite` appends one entry, consumes one answer and changes nothing else (R70). -/
theorem xportWrite_eq (i : RegIdx) (v : Word) (s : State) :
    xportWrite i v s = (s.answer 0,
      { s with xlog := s.xlog ++ [{ idx := i, val := v, ok := s.answer 0 }], env := s.env.afterWrites 1 }) := by
  simp only [xportWrite, nextOk_eq_answer, State.setXlog, State.setEnv, Env.afterWrites, List.drop_one]

/-- The answers that follow `k` writes are the earlier state's answers from `k` on. -/
theorem answer_afterWrites (s t : State) (k j : Nat) (h : t.env = s.env.afterWrites k) :
    t.answer j = s.answer (k + j) := by
  simp only [State.answer, h, Env.afterWrites, List.getElem?_drop, Nat.add_assoc]

/-- What a commit leaves alone: everything but `xlog` and the environment's answers (R81). -/
theorem commitFrom_frame (l : List RegIdx) (s : State) :
    (commitFrom l s).2
      = { s with xlog := (commitFrom l s).2.xlog, env := (commitFrom l s).2.env } := by
  induction l generalizing s with
  | nil => rfl
  | cons i rest ih =>
    simp only [commitFrom, xportWrite_eq]
    cases h : s.answer 0 with
    | true => simp only; rw [ih]
    | false => simp only

/-- A lock-assist write sends the assist word to its register and keeps it as the image (R230). -/
theorem lockAssistWrite_eq (s : State) :
    lockAssistWrite s = (s.answer 0, written s.par.lockAssistReg (assistWord s) s) := by
  have hi := s.par.lockAssistReg.isLt
  simp only [lockAssistWrite, xportWrite_eq, State.writeField, written, assistWord, State.writeReg,
    State.setRegs, State.readReg, Fin.getElem_fin, Vector.getElem_set_self, Vector.set_set]
  rfl

/-! ## The random source (R73) -/

theorem intoRange_mem (lo hi r : Int) (h : lo ≤ hi) : lo ≤ intoRange lo hi r ∧ intoRange lo hi r ≤ hi := by
  have h1 := Int.emod_nonneg (r - lo) (by omega : hi - lo + 1 ≠ 0)
  have h2 := Int.emod_lt_of_pos (r - lo) (by omega : 0 < hi - lo + 1)
  unfold intoRange
  omega

theorem intoRange_self (lo hi r : Int) (h1 : lo ≤ r) (h2 : r ≤ hi) : intoRange lo hi r = r := by
  unfold intoRange
  rw [Int.emod_eq_of_lt (by omega) (by omega)]
  omega

theorem rand_eq (lo hi : Int) (s : State) :
    rand lo hi s = (intoRange lo hi s.nextDraw, { s with env := s.env.afterDraw }) := rfl

/-! ## The parameters -/

/-- `TABLE_LEN ≥ 1` (R6). -/
theorem tableLen_pos (par : Params) : 0 < par.tableLen := by
  have h := par.legal
  simp only [ParamValues.valid, Bool.and_eq_true, Bool.not_eq_true', List.isEmpty_eq_false_iff] at h
  exact List.length_pos_of_ne_nil (by tauto)

/-- `PFD_MIN > 0` (R6). -/
theorem pfdMin_pos (par : Params) : 0 < par.pfdMin := by
  have h := par.legal
  simp only [ParamValues.valid, Bool.and_eq_true, decide_eq_true_eq] at h
  tauto

/-- Every allowed step is positive (R6, R72). -/
theorem steps_pos (par : Params) (x : Nat) (hx : x ∈ par.steps) : 0 < x := by
  have h := par.legal
  simp only [ParamValues.valid, Bool.and_eq_true, decide_eq_true_eq, List.all_eq_true] at h
  have := h.1.1.1.1.1.2 x hx
  tauto

/-- The lock-assist bit is at position 3 or above and is one that `Pack` does not write (R117). -/
theorem lockAssist_free (par : Params) :
    3 ≤ par.lockAssistBit.val ∧ Config.packsBit par.lockAssistReg par.lockAssistBit.val = false := by
  have h := par.legal
  simp only [ParamValues.valid, Bool.and_eq_true, decide_eq_true_eq, Bool.not_eq_true'] at h
  tauto

/-- `TICK_UNIT ≥ 1` (log 16) and `TABLE_SCALE ≥ 1` (R6). -/
theorem units_pos (par : Params) : 1 ≤ par.tickUnit ∧ 1 ≤ par.tableScale := by
  have h := par.legal
  simp only [ParamValues.valid, Bool.and_eq_true, decide_eq_true_eq] at h
  tauto

/-- `F_OUT_MIN ≤ F_OUT_MAX` (R6). -/
theorem fOutMin_le_fOutMax (par : Params) : Config.fOutMin ≤ par.fOutMax := by
  have h := par.legal
  simp only [ParamValues.valid, Bool.and_eq_true, decide_eq_true_eq] at h
  tauto

/-! ## The setpoint and the reset -/

/-- The hook re-bases the glide and, under the constant-rate law, recomputes its magnitude; it changes
nothing else (R218). -/
theorem setpointChanged_eq (s : State) :
    s.setpointChanged = s.setG { s.g with
      glideStart := s.g.current
      constMag := if s.g.glideLaw = .const then rateMagnitude s.g.setpoint s.g.current s.g.glideParam
        else s.g.constMag } := by
  unfold State.setpointChanged
  by_cases h : s.g.glideLaw = .const <;> simp [h, State.setG]

/-- Moving the setpoint writes it, and runs the hook exactly where that changes it (R213, R218). -/
theorem moveSetpoint_eq (s : State) (v : Int) : s.moveSetpoint v = s.setG (hooked s.g v) := by
  unfold State.moveSetpoint
  by_cases h : v = s.g.setpoint
  · subst h; simp [State.setG, hooked]
  · rw [if_pos h, setpointChanged_eq]
    by_cases hc : s.g.glideLaw = .const <;> simp [h, hc, State.setG, hooked]

end Sys2Proof.Machine
end

