-- ==== Sys2Proof/Laws/Engine.lean ====
section
/-! SUPPORT. What the Divider Engine, the Step Resolver, the commit and `Retune` can answer, said once
(41_divider_engine.md R151 to R161, 42_step_resolver.md R190 to R198). -/

namespace Sys2Proof.Machine

/-! ## The engine -/

theorem freqInRange_iff (par : Params) (f : Int) : freqInRange par f = true ↔ LegalFreq par f := by
  simp only [freqInRange, LegalFreq, decide_eq_true_eq]

/-- The loop of step 2 with its bounds as numbers (R152). -/
theorem dividerLoop_succ (ratio fuel div rfdivsel : Nat) :
    dividerLoop ratio (fuel + 1) div rfdivsel
      = if div ≤ ratio ∧ div ≤ 64 then dividerLoop ratio fuel (2 * div) (rfdivsel + 1) else (div, rfdivsel) :=
  rfl

theorem outputDivider_eq (f : Nat) : outputDivider f = dividerLoop (2200000000 / f) 7 1 0 := rfl

/-- The output divider is never 0 (R152). -/
theorem outputDivider_pos (f : Nat) : 0 < (outputDivider f).1 := by
  have h : ∀ fuel ratio d k, 0 < d → 0 < (dividerLoop ratio fuel d k).1 := by
    intro fuel
    induction fuel with
    | zero => exact fun _ _ _ hd => hd
    | succ n ih =>
      intro ratio d k hd
      rw [dividerLoop_succ]
      split
      · exact ih _ _ _ (by omega)
      · exact hd
  exact h _ _ _ _ (by norm_num)

/-- A phase-detector frequency that step 4 accepts (R154). -/
theorem phaseDetector_ok {par : Params} {c : Cfg} {pfd : Rat} (h : phaseDetectorOf par c = .ok pfd) :
    c.rcount ≠ 0 ∧ par.pfdMin ≤ pfd ∧ pfd ≤ par.pfdMax ∧
    pfd = ((c.ref.toNat * (1 + c.doubler.toNat) : Nat) : Rat)
      / ((c.rcount.toNat * (1 + c.div2.toNat) : Nat) : Rat) := by
  unfold phaseDetectorOf phaseDetector at h
  by_cases h0 : c.rcount = 0
  · simp [h0] at h
  · rw [if_neg h0] at h
    dsimp only at h
    split at h
    · cases h
    · rename_i hr
      rw [not_or, not_lt, not_lt] at hr
      cases h
      exact ⟨h0, hr.1, hr.2, rfl⟩

theorem phaseDetector_error {par : Params} {c : Cfg} {e : Failure} (h : phaseDetectorOf par c = .error e) :
    e = .pfdRange := by
  unfold phaseDetectorOf phaseDetector at h
  dsimp only at h
  split at h
  · cases h; rfl
  · split at h <;> cases h
    rfl

/-- A plan that step 9 accepts (R159). -/
theorem validatePlan_ok {p q : Plan} (h : validatePlan p = .ok q) :
    q = p ∧ 2 ≤ p.mod ∧ p.mod ≤ 4095 ∧ p.frac ≤ p.mod - 1 ∧ nintMin p.presc ≤ p.nint ∧ p.nint ≤ 65535 := by
  unfold validatePlan at h
  split at h
  · cases h
  · rename_i h1
    split at h
    · cases h
    · split at h
      · cases h
      · rename_i h3
        cases h
        simp only [Config.modMin, Config.modMax] at h1
        simp only [Config.nintMax] at h3
        exact ⟨rfl, by omega, by omega, by omega, by omega, by omega⟩

theorem validatePlan_error {p : Plan} {e : Failure} (h : validatePlan p = .error e) :
    e = .modRange ∨ e = .fracRange ∨ e = .nintRange := by
  unfold validatePlan at h
  split at h
  · cases h; simp
  · split at h
    · cases h; simp
    · split at h <;> cases h
      simp

/-- A successful evaluation passed every check and is the plan of steps 2 to 8 (R161). -/
theorem engineEval_ok {par : Params} {c : Cfg} {f : Int} {s : Nat} {p : Plan}
    (h : engineEval par c f s = .ok p) :
    LegalFreq par f ∧ s ≠ 0 ∧ ∃ pfd, phaseDetectorOf par c = .ok pfd ∧ p = enginePlan pfd f.toNat s ∧
      2 ≤ p.mod ∧ p.mod ≤ 4095 ∧ p.frac ≤ p.mod - 1 ∧ nintMin p.presc ≤ p.nint ∧ p.nint ≤ 65535 := by
  unfold engineEval at h
  split at h
  · cases h
  · rename_i hf
    split at h
    · cases h
    · rename_i pfd hp
      split at h
      · cases h
      · rename_i hs
        obtain ⟨rfl, hv⟩ := validatePlan_ok h
        exact ⟨(freqInRange_iff par f).mp (by simpa using hf), hs, pfd, hp, rfl, hv⟩

/-- The reasons of a failed evaluation (R150). -/
theorem engineEval_error {par : Params} {c : Cfg} {f : Int} {s : Nat} {e : Failure}
    (h : engineEval par c f s = .error e) :
    e = .freqRange ∨ e = .pfdRange ∨ e = .modRange ∨ e = .fracRange ∨ e = .nintRange := by
  unfold engineEval at h
  split at h
  · cases h; simp
  · split at h
    · rename_i hp
      cases h
      simp [phaseDetector_error hp]
    · split at h
      · cases h; simp
      · rcases validatePlan_error h with rfl | rfl | rfl <;> simp

/-! ## The resolver -/

theorem firstSuccess_ok {par : Params} {c : Cfg} {f : Int} {l : List Nat} {p : Plan}
    (h : firstSuccess par c f l = .ok p) : ∃ s ∈ l, engineEval par c f s = .ok p := by
  induction l with
  | nil => cases h
  | cons s rest ih =>
    unfold firstSuccess at h
    split at h
    · rename_i hs
      cases h
      exact ⟨s, by simp, hs⟩
    · obtain ⟨x, hx, he⟩ := ih h
      exact ⟨x, by simp [hx], he⟩

theorem firstSuccess_error {par : Params} {c : Cfg} {f : Int} {l : List Nat} {e : Failure}
    (h : firstSuccess par c f l = .error e) : e = .noStep := by
  induction l with
  | nil => cases h; rfl
  | cons s rest ih =>
    unfold firstSuccess at h
    split at h
    · cases h
    · exact ih h

/-- A plan of `Retune` is a successful evaluation of a legal frequency (R197). -/
theorem retunePlan_ok {par : Params} {c : Cfg} {f : Int} {p : Plan} (h : retunePlan par c f = .ok p) :
    LegalFreq par f ∧ ∃ s, engineEval par c f s = .ok p := by
  unfold retunePlan at h
  split at h
  · cases h
  · rename_i hf
    refine ⟨(freqInRange_iff par f).mp (by simpa using hf), ?_⟩
    split at h
    · cases h
    · unfold planByMode at h
      split at h
      · exact ⟨_, h⟩
      all_goals
        obtain ⟨s, -, hs⟩ := firstSuccess_ok h
        exact ⟨s, hs⟩

/-- The reasons of a `Retune` that finds no plan: a range always, a divider check in the mode `DIRECT`
alone, `ERR_NO_STEP` in the other modes alone (R197, R198, R291). -/
theorem retunePlan_error {par : Params} {c : Cfg} {f : Int} {e : Failure}
    (h : retunePlan par c f = .error e) :
    e = .freqRange ∨ e = .pfdRange ∨ (c.stepMode ≠ .direct ∧ e = .noStep) ∨
      (c.stepMode = .direct ∧ (e = .modRange ∨ e = .fracRange ∨ e = .nintRange)) := by
  unfold retunePlan at h
  split at h
  · cases h; simp
  · split at h
    · rename_i hp
      cases h
      simp [phaseDetector_error hp]
    · unfold planByMode at h
      split at h
      · rename_i hm
        rcases engineEval_error h with rfl | rfl | rfl | rfl | rfl <;> simp [hm]
      all_goals
        rename_i hm
        simp [firstSuccess_error h, hm]

/-! ## The commit and `Retune` -/

/-- A step that fits `cfg.step` is held there as it is (R31, R197). -/
theorem storeStep_toNat (n : Nat) (h : n < 2 ^ 64) : (storeStep n).toNat = n := by
  simp only [storeStep, if_pos h, BitVec.toNat_ofNat, Nat.mod_eq_of_lt h]

/-- The answers depend on the environment's side alone. -/
theorem answer_congr {s t : State} (h : t.env = s.env) (k : Nat) : t.answer k = s.answer k := by
  simp only [State.answer, h]

theorem answer_congr' {s t : State} (h1 : t.env.oks = s.env.oks) (h2 : t.env.asked = s.env.asked) (k : Nat) :
    t.answer k = s.answer k := by
  simp only [State.answer, h1, h2]

/-- One write of a commit, by its answer (R81). -/
theorem commitFrom_cons (i : RegIdx) (rest : List RegIdx) (s : State) :
    commitFrom (i :: rest) s
      = if s.answer 0 = true then
          commitFrom rest { s with
            xlog := s.xlog ++ [{ idx := i, val := s.readReg i, ok := true }], env := s.env.afterWrites 1 }
        else (false, { s with
          xlog := s.xlog ++ [{ idx := i, val := s.readReg i, ok := false }], env := s.env.afterWrites 1 }) := by
  simp only [commitFrom, xportWrite_eq]
  cases h : s.answer 0 <;> simp

/-- `Retune` by its evaluation (R197). -/
theorem retune_eq (f : Int) (s : State) :
    retune f s = match retunePlan s.par s.cfg f with
      | .error e => (.error e, { s with plan := .failed e })
      | .ok p => retuneCommit f p s := by
  unfold retune State.setPlan
  rfl

/-- What `Retune` records of a plan it found, whatever the commit answers (R197, R293). -/
theorem retuneCommit_eq (f : Int) (p : Plan) (s : State) :
    let packed : State :=
      { s with plan := .ok p, cfg := { s.cfg with step := storeStep p.step }
               regs := packRegs s.cfg p s.regs }
    retuneCommit f p s
      = ((if (commit packed).1 = true then .ok p.mismatch else .error .transport),
        { packed with
          xlog := (commit packed).2.xlog, env := (commit packed).2.env
          committed := if (commit packed).1 = true then some f.toNat else s.committed }) := by
  intro packed
  have hf : (commit packed).2 = _ := commitFrom_frame commitOrder packed
  have hd : retuneCommit f p s = match commit packed with
      | (true, s) => (.ok p.mismatch, s.setCommitted (some f.toNat))
      | (false, s) => (.error .transport, s) := rfl
  rw [hd]
  change (commit packed).2 = { packed with xlog := (commit packed).2.xlog, env := (commit packed).2.env } at hf
  generalize hc : commit packed = r at hf ⊢
  obtain ⟨ok, t⟩ := r
  dsimp only at hf ⊢
  cases ok
  · simp only [Bool.false_eq_true, if_false, Prod.mk.injEq, true_and]
    rw [hf]
  · simp only [if_true, Prod.mk.injEq, true_and]
    rw [hf]
    rfl

end Sys2Proof.Machine
end

