-- ==== Sys2Proof/Laws/PerInstr.lean ====
section
/-! SUPPORT. The family of laws with one lemma per operation: what the fields of its command word hold
(30_encoding.md R107, R108, R110). -/

/-- The command word of `i` carries the opcode of R110 and the operands of R108, each in its field. -/
def Sys2Proof.Laws.WordFields.Statement (i : Sys2Proof.Instr) : Prop :=
  Sys2Proof.opField (Sys2Proof.encode i) = i.opcode ∧
    Sys2Proof.aField (Sys2Proof.encode i) = i.operandA ∧
    Sys2Proof.bField (Sys2Proof.encode i) = i.operandB

open Sys2Proof

theorem Sys2Proof.Laws.WordFields.tick (dt : Operand) :
    Sys2Proof.Laws.WordFields.Statement (.tick dt) := fields_encode _

theorem Sys2Proof.Laws.WordFields.setFreq (f : Operand) :
    Sys2Proof.Laws.WordFields.Statement (.setFreq f) := fields_encode _

theorem Sys2Proof.Laws.WordFields.setFreqGcd (f : Operand) :
    Sys2Proof.Laws.WordFields.Statement (.setFreqGcd f) := fields_encode _

theorem Sys2Proof.Laws.WordFields.setFreqStep (f s : Operand) :
    Sys2Proof.Laws.WordFields.Statement (.setFreqStep f s) := fields_encode _

theorem Sys2Proof.Laws.WordFields.setRef (ref : Operand) (rcount : BitVec 10) (doubler div2 : Bool) :
    Sys2Proof.Laws.WordFields.Statement (.setRef ref rcount doubler div2) := fields_encode _

theorem Sys2Proof.Laws.WordFields.setClocks (bscd : BitVec 8) (clkdiv : BitVec 12) :
    Sys2Proof.Laws.WordFields.Statement (.setClocks bscd clkdiv) := fields_encode _

theorem Sys2Proof.Laws.WordFields.setPower (power : BitVec 2) :
    Sys2Proof.Laws.WordFields.Statement (.setPower power) := fields_encode _

theorem Sys2Proof.Laws.WordFields.setPhase (phase : BitVec 12) :
    Sys2Proof.Laws.WordFields.Statement (.setPhase phase) := fields_encode _

theorem Sys2Proof.Laws.WordFields.enableOut :
    Sys2Proof.Laws.WordFields.Statement .enableOut := fields_encode _

theorem Sys2Proof.Laws.WordFields.disableOut :
    Sys2Proof.Laws.WordFields.Statement .disableOut := fields_encode _

theorem Sys2Proof.Laws.WordFields.lockAssist :
    Sys2Proof.Laws.WordFields.Statement .lockAssist := fields_encode _

theorem Sys2Proof.Laws.WordFields.glideOff :
    Sys2Proof.Laws.WordFields.Statement .glideOff := fields_encode _

theorem Sys2Proof.Laws.WordFields.glideLinear (n : Operand) :
    Sys2Proof.Laws.WordFields.Statement (.glideLinear n) := fields_encode _

theorem Sys2Proof.Laws.WordFields.glideExp (k : Operand) :
    Sys2Proof.Laws.WordFields.Statement (.glideExp k) := fields_encode _

theorem Sys2Proof.Laws.WordFields.glideConst (n : Operand) :
    Sys2Proof.Laws.WordFields.Statement (.glideConst n) := fields_encode _

theorem Sys2Proof.Laws.WordFields.waveOff :
    Sys2Proof.Laws.WordFields.Statement .waveOff := fields_encode _

theorem Sys2Proof.Laws.WordFields.waveRamp (a : Operand) :
    Sys2Proof.Laws.WordFields.Statement (.waveRamp a) := fields_encode _

theorem Sys2Proof.Laws.WordFields.waveSine (a : Operand) :
    Sys2Proof.Laws.WordFields.Statement (.waveSine a) := fields_encode _

theorem Sys2Proof.Laws.WordFields.waveTri (a : Operand) :
    Sys2Proof.Laws.WordFields.Statement (.waveTri a) := fields_encode _

theorem Sys2Proof.Laws.WordFields.waveRandom (a : Operand) :
    Sys2Proof.Laws.WordFields.Statement (.waveRandom a) := fields_encode _

theorem Sys2Proof.Laws.WordFields.setDither (d : Operand) :
    Sys2Proof.Laws.WordFields.Statement (.setDither d) := fields_encode _

theorem Sys2Proof.Laws.WordFields.setPhaseStep (n : Operand) :
    Sys2Proof.Laws.WordFields.Statement (.setPhaseStep n) := fields_encode _

theorem Sys2Proof.Laws.WordFields.getReg (i : BitVec 3) :
    Sys2Proof.Laws.WordFields.Statement (.getReg i) := fields_encode _

theorem Sys2Proof.Laws.WordFields.getPlan (sel : BitVec 4) :
    Sys2Proof.Laws.WordFields.Statement (.getPlan sel) := fields_encode _
end

