-- ==== Sys2Proof/Laws/Tick.lean ====
section
/-! SUPPORT. What the parts of a tick change, said once (43_glide_tick.md R212 to R229). -/

namespace Sys2Proof.Machine

theorem idle_iff (s : State) : s.idle = true ↔ NoLaw s := by
  simp only [State.idle, NoLaw, decide_eq_true_eq]

/-- A target is new exactly where no equal frequency is committed (R228). -/
theorem settledOn_eq_false (s : State) (target : Int) :
    s.settledOn target = false ↔ ∀ f, s.committed = some f → (f : Int) ≠ target := by
  unfold State.settledOn
  cases s.committed <;> simp

/-- Writing twice is consuming the answers of both. -/
theorem afterWrites_afterWrites (e : Env) (a b : Nat) : (e.afterWrites a).afterWrites b = e.afterWrites (a + b) := by
  simp only [Env.afterWrites, List.drop_drop, Nat.add_assoc]

/-- Either all answers up to `n` are good, or there is a first bad one. -/
theorem answers_split (s : State) (n : Nat) :
    (∀ k < n, s.answer k = true) ∨ ∃ k < n, (∀ j < k, s.answer j = true) ∧ s.answer k = false := by
  by_cases h : ∀ k < n, s.answer k = true
  · exact .inl h
  · push Not at h
    refine .inr ⟨Nat.find h, (Nat.find_spec h).1, fun j hj => ?_, by simpa using (Nat.find_spec h).2⟩
    have h1 := Nat.find_min h hj
    have h2 := (Nat.find_spec h).1
    by_contra h3
    exact h1 ⟨by omega, h3⟩

/-- Step 2 (R212). -/
theorem advancePhase_eq (s : State) :
    advancePhase s
      = s.setG { s.g with phaseAcc := (s.g.phaseAcc + s.g.phaseStep.toNat) % s.par.tableLen } := by
  simp only [advancePhase, natMod_eq _ _ (tableLen_pos s.par)]

/-- Step 3 changes the glide group and, by at most one draw, the environment's side (R213, R231). -/
theorem deriveSetpoint_frame (s : State) :
    deriveSetpoint s = { s with g := (deriveSetpoint s).g, env := (deriveSetpoint s).env } ∧
    ((deriveSetpoint s).env = s.env ∨ (deriveSetpoint s).env = s.env.afterDraw) := by
  unfold deriveSetpoint
  split <;> simp [moveSetpoint_eq, State.setG, rand_eq]

/-- Step 3 gives the setpoint some value through the hook; without a waveform law, the one it has (R213,
R218). -/
theorem deriveSetpoint_g (s : State) :
    ∃ v, (deriveSetpoint s).g = hooked s.g v ∧ (s.g.waveLaw = .none → v = s.g.setpoint) := by
  unfold deriveSetpoint
  split
  · exact ⟨s.g.setpoint, by simp [hooked], fun _ => rfl⟩
  all_goals
    rename_i h
    simp only [moveSetpoint_eq, setG_g, rand_eq]
    exact ⟨_, rfl, fun h' => by rw [h] at h'; cases h'⟩

/-- Steps 2 to 4 change the glide group and, by at most one draw, the environment's side (R231). -/
theorem moveFrequency_frame (dt : Operand) (s : State) :
    moveFrequency dt s = { s with g := (moveFrequency dt s).g, env := (moveFrequency dt s).env } ∧
    ((moveFrequency dt s).env = s.env ∨ (moveFrequency dt s).env = s.env.afterDraw) := by
  have h := deriveSetpoint_frame (advancePhase s)
  refine ⟨?_, h.2⟩
  unfold moveFrequency advanceCurrent
  rw [h.1]
  rfl

/-- The glide group after steps 2 to 4: the phase advanced, the setpoint moved through the hook, `current`
by the glide law (R212 to R223). -/
theorem moveFrequency_g (dt : Operand) (s : State) :
    ∃ v, (s.g.waveLaw = .none → v = s.g.setpoint) ∧
      let g := { hooked s.g v with phaseAcc := (s.g.phaseAcc + s.g.phaseStep.toNat) % s.par.tableLen }
      (moveFrequency dt s).g = { g with current := glideTo s.par g dt } := by
  obtain ⟨v, hv, hn⟩ := deriveSetpoint_g (advancePhase s)
  have hpar : (deriveSetpoint (advancePhase s)).par = s.par := by
    rw [(deriveSetpoint_frame (advancePhase s)).1]
    rfl
  rw [advancePhase_eq] at hv hn hpar
  refine ⟨v, hn, ?_⟩
  simp only [moveFrequency, advanceCurrent, setG_g, advancePhase_eq, hv, hpar]
  rfl

/-- Step 5: one draw where a dither amplitude is set, and none otherwise (R227). -/
theorem tickTarget_eq (s : State) :
    tickTarget s = if s.g.dither = 0 then (s.g.current, s) else
      (s.g.current + intoRange (-unsigned s.g.dither) (unsigned s.g.dither) s.nextDraw,
        { s with env := s.env.afterDraw }) := by
  unfold tickTarget
  by_cases h : s.g.dither = 0 <;> simp [h, rand_eq]

/-- Step 5 changes the environment's side alone, by at most one draw (R227, R231). -/
theorem tickTarget_frame (s : State) :
    (tickTarget s).2 = { s with env := (tickTarget s).2.env } ∧
    ((tickTarget s).2.env = s.env ∨ (tickTarget s).2.env = s.env.afterDraw) := by
  unfold tickTarget
  split <;> simp [rand_eq]

/-- The three ends of a tick that is not idle: a retune, a lock-assist write, nothing (R228, R229). -/
theorem tick_cases (dt : Operand) (s : State) (h : ¬NoLaw s) :
    let r := tickTarget (moveFrequency dt s)
    (r.2.settledOn r.1 = false ∧ tick dt s = (retune r.1 r.2).2.clearLocked.finishRetune (retune r.1 r.2).1) ∨
    (r.2.settledOn r.1 = true ∧ r.2.g.locked = false ∧ tick dt s = assistLock r.2) ∨
    (r.2.settledOn r.1 = true ∧ r.2.g.locked = true ∧ tick dt s = r.2.succeed) := by
  intro r
  have hi : s.idle = false := by rw [← Bool.not_eq_true, idle_iff]; exact h
  have ht : tick dt s = settle r.1 r.2 := by
    unfold tick
    rw [hi]
    rfl
  rw [ht, settle]
  cases h1 : r.2.settledOn r.1
  · simp
  · cases h2 : r.2.g.locked <;> simp

/-- The lock-assist write with its flag and its response (R229, R230, R261). -/
theorem assistLock_eq (s : State) :
    assistLock s = { written s.par.lockAssistReg (assistWord s) s with
      g := { s.g with locked := true }, rsp := writeResponse (s.answer 0) } := by
  simp only [assistLock, lockAssistWrite_eq]
  rfl

end Sys2Proof.Machine
end

