-- ==== Sys2Proof/Tests/Slice0.lean ====
section
/-! SUPPORT. The model's own tests: ill-formed operands refused, command words written out from
30_encoding.md (the words of 95_test_vectors.md 2.8), single operations against the vectors of
95_test_vectors.md, and one witness for every statement that has hypotheses. -/

namespace Sys2Proof.Tests

open Sys2Proof Sys2Proof.Machine

/-! ## Small machines -/

/-- The parameters of program P5: the defaults, with its table of eight entries. -/
def par : Params :=
  { Params.standard with
    table := [0, 23170, 32767, 23170, 0, -23170, -32767, -23170], tableScale := 32767
    legal := by decide +kernel }

/-- Wide phase-detector limits, so that the integer-divider checks can fail. -/
def parWide : Params := { par with pfdMin := 1000, pfdMax := 1000000000, legal := by decide +kernel }

/-- Another triangle function. -/
def parTri : Params := { par with tri := .other 0, legal := by decide +kernel }

/-- A configuration with this reference frequency; the rest as the standard one of 95_test_vectors.md. -/
def cfg (ref : Nat) (rcount : BitVec 10 := 1) : Cfg :=
  { State.reset.cfg with ref := BitVec.ofNat 64 ref, rcount := rcount, bscd := 200, clkdiv := 150
                         power := 3, phase := 1 }

/-- An environment whose transport answers as listed. -/
def env (oks : List Bool) : Env := { State.reset.env with oks := oks }

/-- Seven writes that succeed. -/
def allOk : List Bool := [true, true, true, true, true, true, true]

/-- The reset machine with the standard configuration. -/
def base : State := { State.reset with par := par, cfg := cfg 10000000, env := env allOk }

/-- The machine at 100 MHz, committed, with this glide group. -/
def running (g : Glide) : State := { base with g := g, committed := some 100000000 }

/-- The four frequencies at 100 MHz, no law. -/
def still : Glide := tunedGlide State.reset.g 100000000

/-- A linear glide of 100 ticks from 100 MHz to this setpoint. -/
def linear (setpoint : Int) : Glide :=
  { still with glideLaw := .linear, glideParam := 100, setpoint := setpoint }

/-- A waveform law with parameter 10000. -/
def wave (law : WaveLaw) : Glide := { still with waveLaw := law, waveParam := 10000 }

/-- The state an operation leaves. -/
def after (i : Instr) (s : State) : State :=
  match exec i s with
  | .next t => t
  | .fault f => nomatch f
  | .refused _ => s

/-- The state a step leaves. -/
def stepped (s : State) : State :=
  match step s with
  | .next t => t
  | .fault f => nomatch f
  | .refused _ => s

/-- A machine to which one word is presented. -/
def presented (w : CmdWord) : State := { base with env := { base.env with events := [.command w] } }

/-- The plan of vector V10. -/
def planV10 : Plan :=
  { nint := 328, frac := 0, mod := 1000, rfdivsel := 5, div := 32, presc := false, pfd := 10000000
    achieved := 102500000, mismatch := false, step := 10000 }

/-- The machine after the direct tune of program P1. -/
def tuned : State := after (.setFreqStep 102500000 10000) base

/-- R6 bounds no allowed step: one beyond 64 bits is legal. -/
def parHuge : Params := { par with steps := [10000, 2 ^ 64], legal := by decide +kernel }

/-! ## Well-formedness -/

theorem test_getReg_bound : (Instr.getReg 5).wellFormed = true ∧ (Instr.getReg 6).wellFormed = false := by
  decide +kernel
theorem test_getPlan_bound :
    (Instr.getPlan 11).wellFormed = true ∧ (Instr.getPlan 12).wellFormed = false := by
  decide +kernel

/-! ## Decoding of written-out words (V92 to V96, V110 to V123) -/

theorem test_decode_tick : decode 0x00000000000000000000000000000003E8 = .ok (.tick 1000) := by
  decide +kernel
theorem test_decode_setFreq :
    decode 0x010000000005F5E1000000000000000000 = .ok (.setFreq 100000000) := by decide +kernel
theorem test_decode_setFreqGcd :
    decode 0x0200000000061C06A00000000000000000 = .ok (.setFreqGcd 102500000) := by decide +kernel
theorem test_decode_setFreqStep :
    decode 0x0300000000061C06A00000000000002710 = .ok (.setFreqStep 102500000 10000) := by
  decide +kernel
theorem test_decode_setRef :
    decode 0x0800000000009896800000000000000C03 = .ok (.setRef 10000000 3 true true) := by
  decide +kernel
theorem test_decode_setClocks :
    decode 0x09000000000000000000000000000096C8 = .ok (.setClocks 200 150) := by decide +kernel
theorem test_decode_setPower :
    decode 0x0A00000000000000000000000000000003 = .ok (.setPower 3) := by decide +kernel
theorem test_decode_setPhase :
    decode 0x0B00000000000000000000000000000001 = .ok (.setPhase 1) := by decide +kernel
theorem test_decode_output :
    decode 0x0C00000000000000000000000000000000 = .ok .enableOut ∧
    decode 0x0D00000000000000000000000000000000 = .ok .disableOut ∧
    decode 0x0E00000000000000000000000000000000 = .ok .lockAssist := by decide +kernel
theorem test_decode_glide :
    decode 0x1000000000000000000000000000000000 = .ok .glideOff ∧
    decode 0x1100000000000000640000000000000000 = .ok (.glideLinear 100) ∧
    decode 0x12000000000000000A0000000000000000 = .ok (.glideExp 10) ∧
    decode 0x1300000000000000640000000000000000 = .ok (.glideConst 100) := by decide +kernel
theorem test_decode_wave :
    decode 0x1800000000000000000000000000000000 = .ok .waveOff ∧
    decode 0x1900000000000003E80000000000000000 = .ok (.waveRamp 1000) ∧
    decode 0x1A00000000000027100000000000000000 = .ok (.waveSine 10000) ∧
    decode 0x1B00000000000000640000000000000000 = .ok (.waveTri 100) ∧
    decode 0x1C00000000000001F40000000000000000 = .ok (.waveRandom 500) := by decide +kernel
theorem test_decode_dither_phaseStep :
    decode 0x1D00000000000000320000000000000000 = .ok (.setDither 50) ∧
    decode 0x1E00000000000000030000000000000000 = .ok (.setPhaseStep 3) := by decide +kernel
theorem test_decode_queries :
    decode 0x2000000000000000000000000000000003 = .ok (.getReg 3) ∧
    decode 0x2100000000000000000000000000000004 = .ok (.getPlan 4) := by decide +kernel
theorem test_decode_refuses :
    decode 0x0400000000000000000000000000000000 = .error (.illegalOpcode 0x04) ∧
    decode 0x0A00000000000000000000000000000004 = .error (.reservedBits 0x0A) ∧
    decode 0x2000000000000000000000000000000006 = .error (.operandOutOfSet 0x20) ∧
    decode 0x210000000000000000000000000000000C = .error (.operandOutOfSet 0x21) ∧
    decode 0x1000000000000000010000000000000000 = .error (.reservedBits 0x10) := by decide +kernel
theorem test_encode_setRef : encode (.setRef 10000000 3 true true) = 0x0800000000009896800000000000000C03 := by
  decide +kernel
theorem test_decodeTableWord :
    decodeTableWord 136 0x0300000000061C06A00000000000002710 = some (.setFreqStep 102500000 10000) ∧
    decodeTableWord 136 (2 ^ 135) = none := by decide +kernel
theorem test_assembly :
    (Instr.setFreqStep 102500000 10000).assembly = "SET_FREQ_STEP f=102500000, s=10000" ∧
    hexWord (encode (.tick 1000)) = "00000000000000000000000000000003E8" := by decide +kernel

/-! ## Primitives (V1 to V8, V100 to V102) -/

theorem test_setField :
    setField 0x00000000 15 16 328 (by decide) = 0x00A40000 ∧
    setField 0xFFFFFFFF 3 12 0 (by decide) = 0xFFFF8007 ∧
    setField 0x00000000 3 2 7 (by decide) = 0x00000018 ∧
    setField 0x12345678 0 32 0x1FFFFFFFF (by decide) = 0xFFFFFFFF ∧
    setField 0x12345678 7 0 5 (by decide) = 0x12345678 := by decide +kernel
theorem test_getField :
    getField 0x00A40000 15 16 (by decide) = 328 ∧ getField 0x18004FC2 26 3 (by decide) = 6 ∧
    getField 0x18004FC2 9 4 (by decide) = 7 := by decide +kernel
theorem test_tdiv :
    tdiv 7 2 = 3 ∧ tdiv (-7) 2 = -3 ∧ tdiv 7 (-2) = -3 ∧ tdiv (-7) (-2) = 3 ∧ tdiv (-1) 5 = 0 := by
  decide +kernel
theorem test_rhu :
    rhu (32 / 10) = 3 ∧ rhu (9996 / 10) = 1000 ∧ rhu (1 / 2) = 1 ∧ rhu (4999 / 10000) = 0 ∧
    rhu (5 / 2) = 3 ∧ rhu 0 = 0 := by decide +kernel

/-! ## The engine, the resolver and `Pack` (V15 to V39, V40 to V48) -/

theorem test_engine_v12 :
    engineEval par (cfg 10000000) 137500000 10000 = .ok
      { nint := 440, frac := 0, mod := 1000, rfdivsel := 5, div := 32, presc := true, pfd := 10000000
        achieved := 137500000, mismatch := false, step := 10000 } := by decide +kernel
theorem test_engine_v14_strict_prescaler :
    (match engineEval par (cfg 10000000) 900000000 10000 with
      | .ok p => p.presc | .error _ => true) = false := by decide +kernel
theorem test_engine_v15_v17_v37_v39 :
    engineEval par (cfg 10000000) 34384999 10000 = .error .freqRange ∧
    engineEval par (cfg 10000000) 4400000001 10000 = .error .freqRange ∧
    engineEval par (cfg 0 0) 102500000 10000 = .error .pfdRange ∧
    engineEval par (cfg 10000000 100) 102500000 10000 = .error .pfdRange := by decide +kernel
theorem test_engine_v18_v26_v27_v31 :
    engineEval par (cfg 10000000) 2209996000 10000 = .error .modRange ∧
    engineEval par (cfg 10000000) 102500000 1 = .error .modRange ∧
    engineEval par (cfg 10000000) 102500000 0 = .error .modRange ∧
    engineEval par (cfg 10000000) 1234567890 10 = .error .modRange := by decide +kernel
theorem test_engine_v35 :
    engineEval par { cfg 10000000 3 with doubler := true, div2 := true } 100000000 1000 = .ok
      { nint := 960, frac := 0, mod := 3333, rfdivsel := 5, div := 32, presc := false
        pfd := 10000000 / 3, achieved := 100000000, mismatch := false, step := 1000 } := by
  decide +kernel
theorem test_resolve_r191_r192_r193 :
    (resolve par (cfg 10000000) 102500000 true).toOption.map Plan.step = some 2500000 ∧
    (resolve par (cfg 10000000) 102500000 false).toOption.map Plan.step = some 500000 ∧
    (resolve par (cfg 10000000) 100000001 false).toOption.map Plan.step = some 2500 := by decide +kernel
theorem test_resolve_v48 : resolve par (cfg 10000000) 2209999990 false = .error .noStep := by
  decide +kernel
theorem test_resolve_beyond_64_bits :
    (resolve parHuge (cfg 10000000) 100000001 false).toOption.map Plan.step = some 10000 := by
  decide +kernel
theorem test_pack_v10 :
    packRegs (cfg 10000000) planV10 #v[0, 0, 0, 0, 0, 0]
      = #v[0x00A40000, 0x00009F41, 0x18004FC2, 0x00E004B3, 0x00DC803C, 0x00580005] := by decide +kernel

/-! ## One operation each (V60 to V96 and the programs) -/

theorem test_setFreqStep_p1 :
    tuned.xlog.map (fun e => (e.idx, e.val)) = [(5, 0x00580005), (4, 0x00DC803C), (3, 0x00E004B3),
      (2, 0x18004FC2), (1, 0x00009F41), (0, 0x00A40000)] ∧
    tuned.committed = some 102500000 ∧ tuned.cfg.stepMode = .direct ∧ tuned.g.current = 102500000 := by
  decide +kernel
theorem test_setFreqStep_p3_failed_commit :
    let t := after (.setFreqStep 433920000 10000) { base with env := env [true, true, true, false] }
    t.rsp.status = .failed .transport ∧ t.xlog.length = 4 ∧ t.committed = none ∧ t.g.current = 0 ∧
      t.readReg 0 = 0x00AD8088 := by decide +kernel
theorem test_setFreq_v84 :
    let t := after (.setFreq 102500000) { base with cfg := State.reset.cfg }
    t.rsp.status = .failed .pfdRange ∧ t.plan = .failed .pfdRange ∧ t.xlog = [] := by decide +kernel
theorem test_setFreq_glide_path_p4 :
    let t := after (.setFreq 100100000) (running { still with glideLaw := .const, glideParam := 100 })
    t.g.constMag = 1000 ∧ t.g.glideStart = 100000000 ∧ t.g.setpoint = 100100000 ∧ t.xlog = [] := by
  decide +kernel
theorem test_setFreqGcd :
    (after (.setFreqGcd 102500000) base).cfg.step = 2500000 ∧
    (after (.setFreqGcd 102500000) base).cfg.stepMode = .resolveGcd := by decide +kernel
theorem test_setRef_v81_v83 :
    (after (.setRef 100000000 1 false false) base).rsp.status = .failed .pfdRange ∧
    (after (.setRef 100000000 1 false false) base).cfg = base.cfg ∧
    (after (.setRef 10000000 3 true true) base).cfg.rcount = 3 := by decide +kernel
theorem test_setClocks : (after (.setClocks 1 4095) base).cfg = { base.cfg with bscd := 1, clkdiv := 4095 } := by
  decide +kernel
theorem test_setPower_setPhase :
    (after (.setPower 2) base).cfg.power = 2 ∧ (after (.setPhase 4095) base).cfg.phase = 4095 := by
  decide +kernel
theorem test_enableOut_v85 :
    (after .enableOut base).xlog = [{ idx := 4, val := 0x00000024, ok := true }] := by decide +kernel
theorem test_disableOut_p3 :
    let t := after .disableOut { base with regs := #v[0, 0, 0, 0, 0x00BC803C, 0], env := env [false] }
    t.xlog = [{ idx := 4, val := 0x00BC801C, ok := false }] ∧ t.rsp.status = .failed .transport := by
  decide +kernel
theorem test_lockAssist_v86 :
    (after .lockAssist base).xlog = [{ idx := 3, val := 0x00040003, ok := true }] ∧
    (after .lockAssist base).g.locked = true := by decide +kernel
theorem test_glideOff_v89 :
    (after .glideOff (running (linear 100100000))).g.glideLaw = .none ∧
    (after (.glideLinear 0) (running (linear 100100000))).g.glideParam = 0 := by decide +kernel
theorem test_glideConst_v90 :
    let t := after (.glideConst 100) (running { still with setpoint := 100100000 })
    t.g.constMag = 1000 ∧ t.g.glideStart = 100000000 := by decide +kernel
theorem test_waveOff_v91 :
    let t := after .waveOff (running { wave .sine with setpoint := 100007071, current := 100007071, phaseAcc := 3 })
    t.g.setpoint = 100000000 ∧ t.g.glideStart = 100007071 ∧ t.g.phaseAcc = 3 := by decide +kernel
theorem test_dither_phaseStep :
    (after (.setDither 50) base).g.dither = 50 ∧ (after (.setPhaseStep 3) base).g.phaseStep = 3 := by
  decide +kernel
theorem test_getReg_p1 :
    (after (.getReg 0) tuned).rsp.word = 0x0000000000A40000 ∧
    (after (.getReg 6) tuned).rsp.status = .failed .badCommand := by decide +kernel
theorem test_getPlan_p1_v87 :
    (after (.getPlan 0) tuned).rsp.data = 328 ∧ (after (.getPlan 4) tuned).rsp.data = 32 ∧
    (after (.getPlan 0) base).rsp.status = .failed .noPlan := by decide +kernel
theorem test_tick_sine_p5 :
    let t := after (.tick 0) (running { wave .sine with phaseStep := 3 })
    t.g.setpoint = 100007071 ∧ t.rsp.mismatch = true ∧ t.readReg 1 = 0x0000FD01 ∧
      t.readReg 0 = 0x00A002D8 := by decide +kernel
theorem test_tick_glides_v61_v64_v66 :
    (after (.tick 0) (running { still with glideLaw := .exp, glideParam := 10, setpoint := 100001000 })).g.current
      = 100000100 ∧
    (after (.tick 0) (running { linear 100000000 with current := 100001050, glideStart := 100001050 })).g.current
      = 100001040 ∧
    (after (.tick 10000) (running { still with
      glideLaw := .const, glideParam := 1, constMag := 1000, setpoint := 100000025 })).g.current
      = 100000010 := by decide +kernel
theorem test_step_refuses_v92 :
    stepped (presented 0x0400000000000000000000000000000000)
      = { base with rsp := { status := .failed .badCommand, mismatch := false, data := 0 } } := by
  decide +kernel

/-! ## Witnesses: states and operands that meet the statements' hypotheses -/

/-- Six writes of which the one with this number, from 0, fails. -/
def lost (k : Nat) : List Bool := List.replicate k true ++ [false]

theorem active {s : State} (h : s.idle = false) : ¬NoLaw s := by
  simpa [State.idle, NoLaw] using h
theorem legal {p : Params} {f : Int} (h : freqInRange p f = true) : LegalFreq p f := by
  simpa [freqInRange, LegalFreq] using h
theorem illegal {p : Params} {f : Int} (h : freqInRange p f = false) : ¬LegalFreq p f := by
  simpa [freqInRange, LegalFreq] using h

/-- The plan of 100 MHz at the step that the resolver finds. -/
def plan100M : Plan :=
  { nint := 320, frac := 0, mod := 20, rfdivsel := 5, div := 32, presc := false, pfd := 10000000
    achieved := 100000000, mismatch := false, step := 500000 }

theorem witness_DecodeOfEncode : (Instr.getReg 5).wellFormed = true ∧ (Instr.getPlan 11).wellFormed = true := by
  decide +kernel
theorem witness_EncodeOfDecode : decode 0x2000000000000000000000000000000005 = .ok (.getReg 5) := by
  decide +kernel
/-- The two words of each pair differ in one bit or one count: the edge of what R111 refuses. -/
theorem witness_MalformedCommandsAreRefused :
    (presented 0x0F00000000000000000000000000000000).env.events = [.command 0x0F00000000000000000000000000000000] ∧
    malformed 0x0F 0 0 = true ∧ malformed 0x0E 0 0 = false ∧ malformed 0x22 0 0 = true ∧
    malformed 0x20 0 6 = true ∧ malformed 0x20 0 5 = false ∧
    malformed 0x21 0 12 = true ∧ malformed 0x21 0 11 = false ∧
    malformed 0x08 0 0x1000 = true ∧ malformed 0x08 0 0xFFF = false ∧
    malformed 0x00 1 0 = true ∧ malformed 0x00 0 (-1) = false := by decide +kernel
theorem witness_StepRunsDecodedInstruction :
    decode 0x0E00000000000000000000000000000000 = .ok .lockAssist ∧
    (presented 0x0E00000000000000000000000000000000).env.events
      = [.command 0x0E00000000000000000000000000000000] := by decide +kernel
theorem witness_StepWaitsWithNothingPresented : tuned.env.events = [] := by decide +kernel
theorem witness_ResetEventRestoresResetState :
    ({ tuned with env := { tuned.env with events := [.reset] } } : State).env.events = [.reset] := rfl
/-- A whole word, an empty field, and two fields that touch. -/
theorem witness_SetFieldReadsBackAndKeepsRest :
    0 + 32 ≤ 32 ∧ 32 + 0 ≤ 32 ∧ ¬(3 ≤ 15 ∧ 15 < 3 + 12) ∧ (3 + 12 ≤ 15 ∨ 15 + 16 ≤ 3) ∧ 15 + 16 ≤ 32 := by
  decide
theorem witness_DivisionTruncatesTowardZero : (-1 : Int) ≠ 0 := by decide
theorem witness_RandomDrawsFillTheClosedRange :
    (0 : Int) ≤ 0 ∧ (-50 : Int) ≤ 50 ∧ (-50 : Int) ≤ -50 ∧ (50 : Int) ≤ 50 := by decide
theorem witness_OutputDividerIsSmallestPowerAboveRatio :
    Config.fOutMin ≤ 34385000 ∧ (outputDivider 34385000).1 = 64 ∧ (outputDivider 2200000000).1 = 2 ∧
    (outputDivider 2200000001).1 = 1 := by decide +kernel
/-- A success whose step divides the phase-detector frequency into exactly 4095 parts, and a failure. -/
theorem witness_EngineNeverSilentlyWrong :
    (∃ p, engineEval par (cfg 4095000) 100000001 1000 = .ok p ∧ p.pfd = ((4095 : Nat) : Rat) * (1000 : Nat)) ∧
    engineEval par (cfg 4095000) 0 1000 = .error .freqRange := by
  refine ⟨?_, by decide +kernel⟩
  cases h : engineEval par (cfg 4095000) 100000001 1000 with
  | ok p =>
    have hp : (engineEval par (cfg 4095000) 100000001 1000).toOption.map Plan.pfd
        = some (((4095 : Nat) : Rat) * (1000 : Nat)) := by decide +kernel
    rw [h] at hp
    exact ⟨p, rfl, by simpa [Except.toOption] using hp⟩
  | error e =>
    have he : (engineEval par (cfg 4095000) 100000001 1000).toOption.isSome = true := by decide +kernel
    rw [h] at he
    simp [Except.toOption] at he
theorem witness_AchievedFrequencyWithinRoundingBound :
    (0 : Rat) < 10000000 ∧ 1 ≤ rhu ((10000000 : Rat) / (20000000 : Nat)) ∧
    1 ≤ rhu ((10000000 : Rat) / (10000 : Nat)) := by decide +kernel
theorem witness_FractionReduction : (0 : Nat) = 0 ∧ (136 : Nat) ≠ 0 := by decide
theorem witness_IntegerOnlyFormAgrees :
    phaseDetectorOf par (cfg 10000000 3) = .ok (10000000 / 3) ∧ 1 ≤ 1000 ∧
    (enginePlan (10000000 / 3) 100000001 1000).mod ≠ 0 := by decide +kernel
/-- A zero R-counter, both limits, and one hertz outside each. -/
theorem witness_PhaseDetectorRangeCheck :
    (cfg 10000000 0).rcount = 0 ∧
    ((cfg 124999).rcount ≠ 0 ∧ (((124999 * 1 : Nat) : Rat) / ((1 * 1 : Nat) : Rat) < par.pfdMin)) ∧
    ((cfg 32000001).rcount ≠ 0 ∧ par.pfdMax < ((32000001 * 1 : Nat) : Rat) / ((1 * 1 : Nat) : Rat)) ∧
    phaseDetectorOf par (cfg 125000) = .ok 125000 ∧ phaseDetectorOf par (cfg 32000000) = .ok 32000000 := by
  decide +kernel
/-- Each check failing alone, the modulus and the integer divider on both sides, then both at their
limits: `nint` 23 and 75 by the prescaler, `nint` 65535, `mod` 2 and 4095. -/
theorem witness_EngineReportsFirstFailingCheck :
    ¬LegalFreq par 34384999 ∧ (LegalFreq par 34385000 ∧ phaseDetectorOf par (cfg 0) = .error .pfdRange) ∧
    (phaseDetectorOf par (cfg 10000000) = .ok 10000000 ∧ (enginePlan 10000000 2209996000 10000).mod < 2 ∧
      4095 < (enginePlan 10000000 100000001 1).mod) ∧
    (phaseDetectorOf parWide (cfg 100000000) = .ok 100000000 ∧
      (enginePlan 100000000 2299900000 100000).nint < 23 ∧ (enginePlan 100000000 2299900000 100000).mod = 1000) ∧
    (phaseDetectorOf parWide (cfg 40000) = .ok 40000 ∧ 65535 < (enginePlan 40000 2621440000 40).nint ∧
      (enginePlan 40000 2621440000 40).mod = 1000) ∧
    ((enginePlan 100000000 2300000000 100000).nint = 23 ∧ (enginePlan 50000000 3750000000 50000).nint = 75 ∧
      (enginePlan 40000 2621400000 40).nint = 65535) ∧
    (enginePlan 10000000 2205000000 1).mod = 2 ∧ (enginePlan 4095000 2211300000 1000).mod = 4095 := by
  refine ⟨illegal ?_, ⟨legal ?_, ?_⟩, ?_, ?_, ?_, ?_, ?_⟩ <;> decide +kernel
theorem witness_EngineWorkedExamples :
    (cfg 10000000).ref = 10000000 ∧ (cfg 10000000).rcount = 1 ∧ (cfg 10000000).doubler = false ∧
    (cfg 10000000).div2 = false := by decide +kernel
theorem witness_PackLaysOutTheSixWords :
    planV10.frac ≤ 4095 ∧ planV10.mod ≤ 4095 ∧ planV10.nint ≤ 65535 ∧ planV10.rfdivsel ≤ 6 ∧
    Config.packsBit 3 18 = false ∧ Config.packsBit 0 31 = false := by decide +kernel
theorem witness_ResolverSearchOrder :
    resolve par (cfg 10000000) 100000000 false = .ok plan100M ∧
    resolve par (cfg 10000000) 2209999990 false = .error .noStep := by decide +kernel
theorem witness_ResolverStepPolicy :
    resolve par (cfg 10000000) 100000000 false = .ok plan100M := by decide +kernel
theorem witness_RetuneEvaluatesByStepMode :
    ¬LegalFreq par (-1) ∧ (LegalFreq par 4400000000 ∧ phaseDetectorOf par (cfg 0) = .error .pfdRange) ∧
    phaseDetectorOf par (cfg 10000000) = .ok 10000000 ∧
    ((cfg 10000000).stepMode = .resolve ∧ (withMode base .direct 0).cfg.stepMode = .direct ∧
      (withMode base .resolveGcd 0).cfg.stepMode = .resolveGcd) ∧
    retunePlan par (cfg 10000000) 2209999990 = .error .noStep ∧
    (retunePlan par (cfg 10000000) 100000000 = .ok plan100M ∧ plan100M.step < 2 ^ 64) := by
  refine ⟨illegal ?_, ⟨legal ?_, ?_⟩, ?_, ?_, ?_, ?_⟩ <;> decide +kernel
theorem witness_CommitWritesInDescendingOrder :
    (∀ k < 6, base.answer k = true) ∧
    ((0 < 6 ∧ ∀ j < 0, ({ base with env := env (lost 0) } : State).answer j = true) ∧
      ({ base with env := env (lost 0) } : State).answer 0 = false) ∧
    ((5 < 6 ∧ ∀ j < 5, ({ base with env := env (lost 5) } : State).answer j = true) ∧
      ({ base with env := env (lost 5) } : State).answer 5 = false) := by decide +kernel
theorem witness_SetFreqTunes :
    NoLaw base ∧ (∀ k < 6, base.answer k = true) ∧
    retunePlan par (withMode base .resolve base.cfg.step).cfg (unsigned (100000000 : Operand)) = .ok plan100M ∧
    (retunePlan par (withMode base .resolveGcd base.cfg.step).cfg (unsigned (100000000 : Operand))).toOption.isSome
      = true ∧
    retunePlan par (withMode base .direct 10000).cfg (unsigned (102500000 : Operand)) = .ok planV10 := by
  refine ⟨⟨rfl, rfl⟩, ?_, ?_, ?_, ?_⟩ <;> decide +kernel
theorem witness_SetFreqFailuresKeepFrequencies :
    let cut : State := { base with env := env (lost 5) }
    (NoLaw cut ∧ LegalFreq par (unsigned (2209999990 : Operand)) ∧
      retunePlan par (withMode cut .resolve cut.cfg.step).cfg (unsigned (2209999990 : Operand)) = .error .noStep ∧
      retunePlan par (withMode cut .direct 0).cfg (unsigned (2209999990 : Operand)) = .error .modRange) ∧
    (retunePlan par (withMode cut .resolve cut.cfg.step).cfg (unsigned (100000000 : Operand)) = .ok plan100M ∧
      retunePlan par (withMode cut .direct 10000).cfg (unsigned (102500000 : Operand)) = .ok planV10 ∧
      (∀ j < 5, cut.answer j = true) ∧ cut.answer 5 = false) := by
  refine ⟨⟨⟨rfl, rfl⟩, legal ?_, ?_, ?_⟩, ?_, ?_, ?_, ?_⟩ <;> decide +kernel
theorem witness_SetFreqFailuresKeepFrequencies_gcd :
    let cut : State := { base with env := env (lost 0) }
    retunePlan par (withMode cut .resolveGcd cut.cfg.step).cfg (unsigned (2209999990 : Operand)) = .error .noStep ∧
    (retunePlan par (withMode cut .resolveGcd cut.cfg.step).cfg (unsigned (100000000 : Operand))).toOption.isSome
      = true ∧ cut.answer 0 = false := by
  refine ⟨?_, ?_, ?_⟩ <;> decide +kernel
/-- Both ends of the legal range, under a glide law alone and under a waveform law. -/
theorem witness_SetFreqGlidePath :
    ¬NoLaw (running (linear 100100000)) ∧ ¬NoLaw (running (wave .sine)) ∧
    LegalFreq par (unsigned (34385000 : Operand)) ∧ LegalFreq par (unsigned (4400000000 : Operand)) ∧
    (running (linear 100100000)).g.waveLaw = .none ∧ (running (wave .sine)).g.waveLaw ≠ .none := by
  refine ⟨active rfl, active rfl, legal ?_, legal ?_, rfl, ?_⟩ <;> decide +kernel
theorem witness_SetFreqOutOfRangeChangesNothing :
    ¬LegalFreq base.par (unsigned (34384999 : Operand)) ∧
    ¬LegalFreq base.par (unsigned (4400000001 : Operand)) := by
  constructor <;> apply illegal <;> decide +kernel
theorem witness_SetRefStoresOnlyValidReferences :
    (0 : BitVec 10) = 0 ∧
    ((1 : BitVec 10) ≠ 0 ∧ ((124999 * 1 : Nat) : Rat) / ((1 * 1 : Nat) : Rat) < base.par.pfdMin) ∧
    base.par.pfdMax < ((32000001 * 1 : Nat) : Rat) / ((1 * 1 : Nat) : Rat) ∧
    (base.par.pfdMin ≤ ((125000 * 1 : Nat) : Rat) / ((1 * 1 : Nat) : Rat) ∧
      ((32000000 * 1 : Nat) : Rat) / ((1 * 1 : Nat) : Rat) ≤ base.par.pfdMax) := by decide +kernel
theorem witness_GlideLawSelection :
    (0 : Operand) = 0 ∧ (1 : Operand) ≠ 0 ∧
    ((running (linear 100100000)).g.setpoint - (running (linear 100100000)).g.current).natAbs
      / (1 : Operand).toNat < 2 ^ 64 := by decide +kernel
theorem witness_WaveLawSelection : (0 : Operand) = 0 ∧ (1 : Operand) ≠ 0 := by decide
theorem witness_GetRegReadsImages : (5 : BitVec 3).toNat = (5 : RegIdx).val ∧ 5 < (6 : BitVec 3).toNat := by
  decide
theorem witness_GetPlanReadsResult :
    11 < (12 : BitVec 4).toNat ∧ (11 : BitVec 4).toNat ≤ 11 ∧ base.plan = .none ∧
    (after (.setFreqStep 100000000 0) base).plan = .failed .modRange ∧ tuned.plan = .ok planV10 := by
  decide +kernel
theorem witness_IdleTickDoesNothing : NoLaw tuned := by constructor <;> decide +kernel
/-- Every waveform law; a draw at each end of its range. -/
theorem witness_TickDerivesSetpoint :
    ¬NoLaw (running (linear 100100000)) ∧ ¬NoLaw (running (wave .ramp)) ∧ ¬NoLaw (running (wave .sine)) ∧
    ¬NoLaw (running (wave .tri)) ∧ par.tri = .standard ∧ (running (wave .tri)).g.waveParam ≠ 0 ∧
    parTri.tri = .other 0 ∧ ¬NoLaw (running (wave .random)) ∧
    (({ base with env := { base.env with draws := [0] } } : State).nextDraw = 0 ∧
      ({ base with env := { base.env with draws := [10000] } } : State).nextDraw = 10000) := by
  refine ⟨active rfl, active rfl, active rfl, active rfl, rfl, ?_, rfl, active rfl, rfl, rfl⟩
  decide
/-- Every glide law; the linear and the constant-rate law on both sides of their arrival test. -/
theorem witness_TickAdvancesCurrent :
    ¬NoLaw (running (wave .ramp)) ∧ (running (wave .ramp)).g.glideLaw = .none ∧
    ¬NoLaw (running { still with glideLaw := .exp, glideParam := 10 }) ∧
    (¬NoLaw (running (linear 100100000)) ∧ |(1000 : Int)| < |(100000 : Int)| ∧ |(1000 : Int)| ≤ |(1000 : Int)|) ∧
    ¬NoLaw (running { still with glideLaw := .const, glideParam := 1 }) ∧
    ((max 1 0 : Int) < |(2 : Int)| ∧ |(1 : Int)| ≤ max 1 0) := by
  refine ⟨active rfl, rfl, active rfl, ⟨active rfl, ?_, ?_⟩, active rfl, ?_, ?_⟩ <;> decide
/-- No dither, and a dither of 50 Hz with a draw at each end of its range. -/
theorem witness_TickTargetIsCurrentPlusDither :
    let dithered (r : Int) : State :=
      { running { linear 100100000 with dither := 50 } with env := { base.env with draws := [r] } }
    (running (linear 100100000)).g.dither = 0 ∧ (dithered (-50)).g.dither ≠ 0 ∧
    -((50 : Operand).toNat : Int) ≤ (moveFrequency 0 (dithered (-50))).nextDraw ∧
    (moveFrequency 0 (dithered 50)).nextDraw ≤ ((50 : Operand).toNat : Int) ∧
    (tickTarget (moveFrequency 0 (dithered (-50)))).1 = 100000950 ∧
    (tickTarget (moveFrequency 0 (dithered 50))).1 = 100001050 := by decide +kernel
/-- A tick to 100,001,000 Hz from 100,000,000 Hz committed. -/
theorem witness_TickRetunes :
    ¬NoLaw (running (linear 100100000)) ∧
    (∀ f, (running (linear 100100000)).committed = some f →
      (f : Int) ≠ (tickTarget (moveFrequency 0 (running (linear 100100000)))).1) ∧
    (retunePlan par (cfg 10000000) (tickTarget (moveFrequency 0 (running (linear 100100000)))).1).toOption.isSome
      = true ∧
    (∀ k < 6, (running (linear 100100000)).answer k = true) := by
  refine ⟨active rfl, ?_, by decide +kernel, by decide +kernel⟩
  intro f hf
  obtain rfl : 100000000 = f := Option.some.inj hf
  decide +kernel
/-- A tick without a usable reference, and one whose last write is lost. -/
theorem witness_TickRetuneFailures :
    let bad : State := { running (linear 100100000) with cfg := cfg 0 }
    let cut : State := { running (linear 100100000) with env := env (lost 5) }
    (¬NoLaw bad ∧ bad.settledOn (tickTarget (moveFrequency 0 bad)).1 = false ∧
      retunePlan par bad.cfg (tickTarget (moveFrequency 0 bad)).1 = .error .pfdRange) ∧
    (¬NoLaw cut ∧ cut.settledOn (tickTarget (moveFrequency 0 cut)).1 = false ∧
      (retunePlan par cut.cfg (tickTarget (moveFrequency 0 cut)).1).toOption.isSome = true ∧
      (∀ j < 5, cut.answer j = true) ∧ cut.answer 5 = false) := by
  refine ⟨⟨active rfl, ?_, ?_⟩, active rfl, ?_, ?_, ?_, ?_⟩ <;> decide +kernel
/-- A glide that has arrived at the committed frequency, `locked` clear and set. -/
theorem witness_TickLockAssistOncePerSettling :
    ¬NoLaw (running (linear 100000000)) ∧ (running (linear 100000000)).committed = some 100000000 ∧
    ((100000000 : Nat) : Int) = (tickTarget (moveFrequency 0 (running (linear 100000000)))).1 ∧
    (running (linear 100000000)).g.locked = false ∧
    (running { linear 100000000 with locked := true }).g.locked = true := by
  refine ⟨active rfl, rfl, ?_, rfl, rfl⟩
  decide +kernel
/-- The source's example (S3): 100 ticks of 1000 Hz. -/
theorem witness_LinearGlideTakesExactlyItsTicks :
    let s := running (linear 100100000)
    s.g.glideLaw = .linear ∧ s.g.waveLaw = .none ∧ 0 < s.g.glideParam.toNat ∧
    s.g.glideStart = s.g.current ∧ s.g.setpoint = s.g.current + s.g.glideParam.toNat * 1000 := by
  decide +kernel
theorem witness_ConstantRateReachesSetpoint :
    let s := running { still with glideLaw := .const, glideParam := 1, constMag := 1000, setpoint := 100000002 }
    s.g.glideLaw = .const ∧ s.g.waveLaw = .none ∧
    (s.g.setpoint - s.g.current).natAbs ≤ ([0, 0] : List Operand).length := by decide +kernel
theorem witness_ExponentialGlideStopsShort :
    let s := running { still with glideLaw := .exp, glideParam := 10, setpoint := 100000009 }
    s.g.glideLaw = .exp ∧ s.g.waveLaw = .none ∧ s.g.glideParam ≠ 0 ∧
    (s.g.setpoint - s.g.current).natAbs < s.g.glideParam.toNat := by decide +kernel
theorem witness_LinearGlideStallsOnShortDistance :
    let s := running (linear 100000099)
    s.g.glideLaw = .linear ∧ s.g.waveLaw = .none ∧
    (s.g.setpoint - s.g.glideStart).natAbs < s.g.glideParam.toNat := by decide +kernel

/-- The tuned machine of program P1, with `LOCK_ASSIST` presented. -/
def tunedNext : State :=
  { tuned with env := { tuned.env with events := [.command 0x0E00000000000000000000000000000000] } }

/-- The invariant holds with a plan, a commit and six packed images. -/
theorem tuned_inv (ev : List EnvEvent) : State.Inv { tuned with env := { tuned.env with events := ev } } where
  glideParam := by change tuned.g.glideLaw = .none ↔ tuned.g.glideParam = 0; decide +kernel
  waveParam := by change tuned.g.waveLaw = .none ↔ tuned.g.waveParam = 0; decide +kernel
  phaseAcc := by change tuned.g.phaseAcc < tuned.par.tableLen; decide +kernel
  planOk := by
    intro p hp
    have h : tuned.plan = .ok planV10 := by decide +kernel
    obtain rfl : planV10 = p := PlanReg.ok.inj (h.symm.trans hp)
    change PlanOk tuned.par planV10
    exact
      { modRange := by decide +kernel, fracRange := by decide +kernel, nintRange := by decide +kernel
        divider := by decide +kernel, pfdRange := by decide +kernel, achievedPositive := by decide +kernel
        stepPositive := by decide +kernel, requested := ⟨102500000, by decide +kernel⟩ }
  planFailed := by
    intro e he
    have h : tuned.plan = .ok planV10 := by decide +kernel
    exact nomatch h.symm.trans he
  committed := by
    intro f hf
    have h : tuned.committed = some 102500000 := by decide +kernel
    obtain rfl : 102500000 = f := Option.some.inj (h.symm.trans hf)
    change _ ∧ _ ≤ tuned.par.fOutMax
    decide +kernel
  address := by
    change ∀ i : RegIdx, getField (tuned.readReg i) 0 3 = 0 ∨ getField (tuned.readReg i) 0 3 = i.val
    decide +kernel
  base := by change 0 ≤ tuned.g.base; decide +kernel

theorem witness_StepKeepsInvariant : tunedNext.Inv ∧ step tunedNext = .next (stepped tunedNext) :=
  ⟨tuned_inv _, rfl⟩
/-- One operation for each of the three forms, a whole commit and a commit cut at its first write. -/
theorem witness_AtMostOneCommitPerOperation :
    exec .glideOff base = .next (after .glideOff base) ∧
    exec .enableOut base = .next (after .enableOut base) ∧
    exec (.setFreqStep 102500000 10000) base = .next tuned ∧ tuned.xlog.length = 6 ∧
    (after (.setFreqStep 102500000 10000) { base with env := env [false] }).xlog.length = 1 :=
  ⟨rfl, rfl, rfl, by decide +kernel, by decide +kernel⟩
theorem witness_FailureCodesByOperation :
    State.Inv { tuned with env := { tuned.env with events := [] } } ∧
    exec (.setFreqStep 102500000 0) tuned = .next (after (.setFreqStep 102500000 0) tuned) ∧
    (after (.setFreqStep 102500000 0) tuned).rsp.status = .failed .modRange :=
  ⟨tuned_inv [], rfl, by decide +kernel⟩
theorem witness_ParametersNeverChange : step tunedNext = .next (stepped tunedNext) := rfl
theorem witness_OperationsWriteOnlyTheirState :
    exec (.setRef 10000000 3 true true) base = .next (after (.setRef 10000000 3 true true) base) ∧
    exec (.tick 0) (running (linear 100100000)) = .next (after (.tick 0) (running (linear 100100000))) ∧
    base.cfg.rcount ≠ 0 :=
  ⟨rfl, rfl, by decide⟩
theorem witness_ResponseCarriesOnlyWhatIsDue :
    exec (.setFreqStep 100000001 10000) base = .next (after (.setFreqStep 100000001 10000) base) ∧
    (after (.setFreqStep 100000001 10000) base).rsp.mismatch = true ∧
    (after (.getReg 0) tuned).rsp.data ≠ 0 ∧
    (after (.setFreqStep 100000001 0) base).rsp.status = .failed .modRange :=
  ⟨rfl, by decide +kernel, by decide +kernel, by decide +kernel⟩
theorem witness_CommittedOnlyAfterSixWrites :
    exec (.setFreqStep 102500000 10000) base = .next tuned ∧ tuned.committed ≠ base.committed :=
  ⟨rfl, by decide +kernel⟩
theorem witness_LockAssistBitStaysSet :
    let s := after .lockAssist base
    exec (.setFreqStep 102500000 10000) s = .next (after (.setFreqStep 102500000 10000) s) ∧
    (s.readReg s.par.lockAssistReg).getLsbD s.par.lockAssistBit.val = true :=
  ⟨rfl, by decide +kernel⟩

end Sys2Proof.Tests
end

section
/-! The arithmetic of 00_scope.md R8: `tdiv` leaves a remainder of the dividend's sign. -/

namespace Sys2Proof.Machine

/-- Settles O11: `tdiv` is `Int.tdiv` wherever R8 defines it, so the remainder is `Int.tmod`, which is
zero where `b` divides `a` and otherwise has the sign of `a`. -/
theorem divisionTruncatesTowardZero : Obligations.DivisionTruncatesTowardZero := by
  intro a b hb
  refine ⟨a.tmod b, ?value, ?size, ?sign⟩
  case value => rw [tdiv_eq a b hb, Int.mul_tdiv_add_tmod]
  case size =>
    rw [Int.natAbs_tmod]
    exact Nat.mod_lt _ (Int.natAbs_pos.mpr hb)
  case sign =>
    by_cases hdvd : b ∣ a
    · exact .inl (Int.tmod_eq_zero_of_dvd hdvd)
    · exact .inr (by rw [Int.sign_tmod, if_neg hdvd])

end Sys2Proof.Machine
end

section
/-! One step on a presented entry (00_scope.md R10): what the queue hands over, what the step then runs,
and that presenting a word (log 1) adds that word in front and nothing else. -/

namespace Sys2Proof.Machine

/-- A queue that is not empty hands over its first entry and loses it. -/
theorem nextEvent_of_events_cons {s : State} {e : EnvEvent} {rest : List EnvEvent}
    (hq : s.env.events = e :: rest) : s.nextEvent = some (e, popped s rest) := by
  rw [State.nextEvent, hq]
  rfl

/-- A presented word that decodes runs its operation on the state without it (R10, R250). -/
theorem step_of_decode_ok {s : State} {w : CmdWord} {i : Instr} {rest : List EnvEvent}
    (hq : s.env.events = .command w :: rest) (hd : decode w = .ok i) :
    step s = exec i (popped s rest) := by
  simp only [step, nextEvent_of_events_cons hq, hd]

/-- A command word presented at its full width stands unchanged before the queue. -/
theorem withFetchWord_events (s : State) (w : CmdWord) :
    (s.withFetchWord 136 w.toNat).env.events = .command w :: s.env.events := by
  rw [State.withFetchWord, setEnv_env, Nat.mod_eq_of_lt w.isLt, BitVec.ofNat_toNat, BitVec.setWidth_eq]

/-- Taking the presented word off again gives the state it was presented to. -/
theorem popped_withFetchWord (s : State) (nbits w : Nat) :
    popped (s.withFetchWord nbits w) s.env.events = s := rfl

/-- Settles O4: both halves are `step_of_decode_ok`, the second on the queue with the word in front. -/
theorem stepRunsDecodedInstruction : Obligations.StepRunsDecodedInstruction := by
  intro s w i hd
  refine ⟨fun rest hq => step_of_decode_ok hq hd, ?presented⟩
  case presented =>
    have hstep := step_of_decode_ok (withFetchWord_events s w) hd
    rwa [popped_withFetchWord] at hstep

end Sys2Proof.Machine
end

section
/-! The commit in full (20_memory.md R81): the writes it makes, up to the first that fails. -/

namespace Sys2Proof.Machine

/-- The log entries of the registers `l` written in this order from `s` on, the images being `r`. -/
def sentEntries (s : State) (r : Vector Word 6) (l : List RegIdx) : List XportEntry :=
  l.zipIdx.map fun ij => { idx := ij.1, val := r[ij.1], ok := s.answer ij.2 }

/-- The first entry takes the next answer, the others those from a state one write later. -/
theorem sentEntries_cons {s t : State} (henv : t.env = s.env.afterWrites 1) (r : Vector Word 6)
    (i : RegIdx) (rest : List RegIdx) :
    sentEntries s r (i :: rest) = { idx := i, val := r[i], ok := s.answer 0 } :: sentEntries t r rest := by
  simp only [sentEntries, List.zipIdx_cons', List.map_cons, List.map_map, List.cons.injEq, true_and]
  refine List.map_congr_left fun ij _ => ?_
  simp only [Function.comp_apply, Prod.map_fst, Prod.map_snd, id_eq, answer_afterWrites s t 1 _ henv,
    Nat.add_comm]

/-- The entries depend on the state by its answers alone. -/
theorem commitEntries_congr {s t : State} (hans : ∀ k, t.answer k = s.answer k) (r : Vector Word 6)
    (k : Nat) : commitEntries t r k = commitEntries s r k := by
  simp only [commitEntries, hans]

/-- `s` after the registers `l` were sent (R70): the log and the consumed answers. -/
def sent (s : State) (l : List RegIdx) : State :=
  { s with xlog := s.xlog ++ sentEntries s s.regs l, env := s.env.afterWrites l.length }

theorem sent_nil (s : State) : sent s [] = s := by
  simp [sent, sentEntries, Env.afterWrites]

/-- Sending one more register first is sending the others from one write later. -/
theorem sent_cons (s : State) (i : RegIdx) (rest : List RegIdx) :
    sent s (i :: rest) = sent { s with
      xlog := s.xlog ++ [{ idx := i, val := s.readReg i, ok := s.answer 0 }]
      env := s.env.afterWrites 1 } rest := by
  simp only [sent, afterWrites_afterWrites, List.append_assoc, List.singleton_append,
    List.length_cons, Nat.add_comm 1]
  have htail := sentEntries_cons (s := s) (t := { s with env := s.env.afterWrites 1 }) rfl
  rw [htail]
  rfl

/-- Where every answer is good, all registers are sent (R81). -/
theorem commitFrom_of_good (l : List RegIdx) (s : State) (hgood : ∀ k < l.length, s.answer k = true) :
    commitFrom l s = (true, sent s l) := by
  induction l generalizing s with
  | nil => rw [sent_nil]; rfl
  | cons i rest ih =>
    have h0 : s.answer 0 = true := hgood 0 (by simp)
    rw [commitFrom_cons, if_pos h0, ih, sent_cons, h0]
    intro k hk
    rw [answer_afterWrites s _ 1 k rfl]
    exact hgood (1 + k) (by simp; omega)

/-- The first bad answer ends the commit with its own write, which is logged (R81). -/
theorem commitFrom_of_bad (l : List RegIdx) (s : State) (k : Nat) (hk : k < l.length)
    (hgood : ∀ j < k, s.answer j = true) (hbad : s.answer k = false) :
    commitFrom l s = (false, sent s (l.take (k + 1))) := by
  induction l generalizing s k with
  | nil => exact absurd hk (Nat.not_lt_zero k)
  | cons i rest ih =>
    rw [commitFrom_cons, List.take_succ_cons, sent_cons]
    cases k with
    | zero => simp only [hbad, Bool.false_eq_true, if_false, List.take_zero, sent_nil]
    | succ k =>
      have h0 : s.answer 0 = true := hgood 0 (Nat.succ_pos k)
      rw [if_pos h0, h0]
      apply ih _ k (by simpa using hk)
      · intro j hj
        rw [answer_afterWrites s _ 1 j rfl]
        exact hgood (1 + j) (by omega)
      · rw [answer_afterWrites s _ 1 k rfl, Nat.add_comm]
        exact hbad

end Sys2Proof.Machine
end

section
/-! The ends of `Retune`, of a `SET_FREQ*` and of a tick, each said once (42_step_resolver.md R197,
44_controller_ops.md R251, 43_glide_tick.md R210): every invariant of these operations is a case analysis
over them. -/

namespace Sys2Proof.Machine

/-- How `Retune(f)` can end from `s`, with its answer and the state it leaves (R197, R293). -/
inductive RetuneEnd (f : Int) (s : State) : Except Failure Bool → State → Prop
  /-- No plan: the reason is recorded and nothing is written. -/
  | unplanned {e : Failure} (hplan : retunePlan s.par s.cfg f = .error e) :
      RetuneEnd f s (.error e) { s with plan := .failed e }
  /-- A plan, but write `k` of the commit fails. -/
  | lost {p : Plan} {k : Nat} (hplan : retunePlan s.par s.cfg f = .ok p) (hk : k < 6)
      (hgood : ∀ j < k, s.answer j = true) (hbad : s.answer k = false) :
      RetuneEnd f s (.error .transport) (retuneCut k p s)
  /-- A plan, and all six writes succeed. -/
  | tuned {p : Plan} (hplan : retunePlan s.par s.cfg f = .ok p) (hgood : ∀ k < 6, s.answer k = true) :
      RetuneEnd f s (.ok p.mismatch) (retuned f p s)

/-- `s` with the plan recorded and packed, before the commit (R197). -/
def planned (p : Plan) (s : State) : State :=
  { s with
    plan := .ok p, cfg := { s.cfg with step := storeStep p.step }, regs := packRegs s.cfg p s.regs }

theorem retuned_eq_sent (f : Int) (p : Plan) (s : State) :
    retuned f p s = { sent (planned p s) commitOrder with committed := some f.toNat } := rfl

theorem retuneCut_eq_sent (k : Nat) (hk : k < 6) (p : Plan) (s : State) :
    retuneCut k p s = sent (planned p s) (commitOrder.take (k + 1)) := by
  rw [sent, List.length_take_of_le (show k + 1 ≤ 6 from hk)]
  rfl

/-- What follows a successful evaluation is the commit of the planned state (R197). -/
theorem retuneCommit_eq_planned (f : Int) (p : Plan) (s : State) :
    retuneCommit f p s
      = if (commit (planned p s)).1 = true then
          (.ok p.mismatch, (commit (planned p s)).2.setCommitted (some f.toNat))
        else (.error .transport, (commit (planned p s)).2) := by
  have hdef : retuneCommit f p s = match commit (planned p s) with
      | (true, t) => (.ok p.mismatch, t.setCommitted (some f.toNat))
      | (false, t) => (.error .transport, t) := rfl
  rw [hdef]
  rcases commit (planned p s) with ⟨_ | _, t⟩ <;> rfl

theorem retuneCommit_of_good (f : Int) (p : Plan) (s : State) (hgood : ∀ k < 6, s.answer k = true) :
    retuneCommit f p s = (.ok p.mismatch, retuned f p s) := by
  have hcommit : commit (planned p s) = (true, sent (planned p s) commitOrder) :=
    commitFrom_of_good commitOrder (planned p s) hgood
  rw [retuneCommit_eq_planned, hcommit, if_pos rfl, retuned_eq_sent]
  rfl

theorem retuneCommit_of_bad (f : Int) (p : Plan) (s : State) (k : Nat) (hk : k < 6)
    (hgood : ∀ j < k, s.answer j = true) (hbad : s.answer k = false) :
    retuneCommit f p s = (.error .transport, retuneCut k p s) := by
  have hcommit : commit (planned p s) = (false, sent (planned p s) (commitOrder.take (k + 1))) :=
    commitFrom_of_bad commitOrder (planned p s) k hk hgood hbad
  rw [retuneCommit_eq_planned, hcommit, if_neg Bool.false_ne_true, retuneCut_eq_sent k hk]

/-- `Retune` ends in one of its three ways. -/
theorem retune_end (f : Int) (s : State) : RetuneEnd f s (retune f s).1 (retune f s).2 := by
  rw [retune_eq]
  split
  case h_1 e hplan => exact .unplanned hplan
  case h_2 p hplan =>
    rcases answers_split s 6 with hgood | ⟨k, hk, hgood, hbad⟩
    · rw [retuneCommit_of_good f p s hgood]
      exact .tuned hplan hgood
    · rw [retuneCommit_of_bad f p s k hk hgood hbad]
      exact .lost hplan hk hgood hbad

/-- How the immediate path of R251 ends after its `Retune`. -/
def tuneEnd (f : Int) : Except Failure Bool → State → State
  | .ok m, s => { s with g := tunedGlide s.g f, rsp := { status := .ok, mismatch := m, data := 0 } }
  | .error e, s => { s with g := { s.g with locked := false }, rsp := failure e }

theorem setFreqNow_eq (f : Int) (s : State) : setFreqNow f s = tuneEnd f (retune f s).1 (retune f s).2 := by
  rw [setFreqNow]
  rcases retune f s with ⟨_ | _, t⟩ <;> rfl

/-- The glide group that the glide path of R251 leaves. -/
def basedGlide (g : Glide) (f : Int) : Glide :=
  if g.waveLaw = .none then hooked { g with base := f } f else { g with base := f }

theorem setFreqGlide_eq (f : Int) (s : State) :
    setFreqGlide f s = { s with g := basedGlide s.g f, rsp := plainOk } := by
  unfold setFreqGlide basedGlide
  by_cases h : s.g.waveLaw = .none
  · simp only [setG_g, h, if_true, moveSetpoint_eq]
    rfl
  · simp only [setG_g, h, if_false]
    rfl

/-- How a `SET_FREQ*` of `f` can end from `s`, where it records `s1` (R251). -/
inductive SetFreqEnd (f : Int) (s s1 : State) : State → Prop
  | refused (hf : ¬LegalFreq s.par f) : SetFreqEnd f s s1 { s with rsp := failure .freqRange }
  | glided (hf : LegalFreq s.par f) (hlaw : ¬NoLaw s) :
      SetFreqEnd f s s1 { s1 with g := basedGlide s1.g f, rsp := plainOk }
  | retuned {r : Except Failure Bool} {t : State} (hf : LegalFreq s.par f) (hlaw : NoLaw s)
      (hr : RetuneEnd f s1 r t) : SetFreqEnd f s s1 (tuneEnd f r t)

theorem withMode_eq (s : State) (mode : StepMode) (step : Operand) :
    withMode s mode step = s.setCfg { s.cfg with stepMode := mode, step := step } := rfl

theorem setFreqCommon_end (f : Int) (mode : StepMode) (step : Operand) (s : State) :
    SetFreqEnd f s (withMode s mode (if mode = .direct then step else s.cfg.step))
      (setFreqCommon f mode step s) := by
  by_cases hf : LegalFreq s.par f
  · have hrange : ¬freqInRange s.par f = false := by simp [(freqInRange_iff s.par f).mpr hf]
    rw [setFreqCommon, if_neg hrange, ← withMode_eq]
    dsimp only
    by_cases hlaw : NoLaw s
    · rw [if_pos ((idle_iff (withMode s mode _)).mpr hlaw), setFreqNow_eq]
      exact .retuned hf hlaw (retune_end f _)
    · rw [if_neg fun h => hlaw ((idle_iff (withMode s mode _)).mp h), setFreqGlide_eq]
      exact .glided hf hlaw
  · have hrange : freqInRange s.par f = false :=
      Bool.eq_false_iff.mpr fun h => hf ((freqInRange_iff s.par f).mp h)
    rw [setFreqCommon, if_pos hrange]
    exact .refused hf

/-- `m` is `s` after steps 2 to 5 of a tick: the glide group moved, some draws made (R231). -/
def Moved (dt : Operand) (s m : State) : Prop :=
  ∃ draws drawn, m = { s with
    g := (moveFrequency dt s).g, env := { s.env with draws := draws, drawn := drawn } }

theorem moved_tickTarget (dt : Operand) (s : State) :
    Moved dt s (tickTarget (moveFrequency dt s)).2 := by
  obtain ⟨hm, hmenv⟩ := moveFrequency_frame dt s
  obtain ⟨ht, htenv⟩ := tickTarget_frame (moveFrequency dt s)
  have hdraws : ∃ draws drawn,
      (tickTarget (moveFrequency dt s)).2.env = { s.env with draws := draws, drawn := drawn } := by
    rcases htenv with h | h <;> rcases hmenv with h' | h' <;> rw [h, h'] <;> exact ⟨_, _, rfl⟩
  obtain ⟨draws, drawn, henv⟩ := hdraws
  refine ⟨draws, drawn, ?_⟩
  rw [ht, henv, hm]

/-- How a tick can end (R211, R228, R229), `m` being the state after steps 2 to 5. -/
inductive TickEnd (dt : Operand) (s : State) : State → Prop
  | idle (hlaw : NoLaw s) : TickEnd dt s s.succeed
  | retuned {f : Int} {m t : State} {r : Except Failure Bool} (hm : Moved dt s m)
      (hnew : m.settledOn f = false) (hr : RetuneEnd f m r t) :
      TickEnd dt s (t.clearLocked.finishRetune r)
  | assisted {m : State} (hm : Moved dt s m) : TickEnd dt s (assistLock m)
  | settled {m : State} (hm : Moved dt s m) : TickEnd dt s m.succeed

theorem tick_end (dt : Operand) (s : State) : TickEnd dt s (tick dt s) := by
  by_cases hlaw : NoLaw s
  · rw [tick, if_pos ((idle_iff s).mpr hlaw)]
    exact .idle hlaw
  · have hm := moved_tickTarget dt s
    rcases tick_cases dt s hlaw with ⟨hnew, h⟩ | ⟨-, -, h⟩ | ⟨-, -, h⟩ <;> rw [h]
    · exact .retuned hm hnew (retune_end _ _)
    · exact .assisted hm
    · exact .settled hm

end Sys2Proof.Machine
end

section
/-! Which cells an operation may write (10_state.md R40), with what follows from it: the parameters stay
(R37), and `committed` follows a complete commit (R34). -/

namespace Sys2Proof.Machine

/-- `t` is `s` but for the glide group and the response: the row of R40 of the law operations. -/
def WritesGlide (s t : State) : Prop := t = { s with g := t.g, rsp := t.rsp }

/-- The three glide laws share this form (R263 to R265). -/
theorem writesGlide_selectGlide (n : Operand) (law : GlideLaw) (mag : Operand) (s : State) :
    WritesGlide s (if n = 0 then glideNone s else selectGlide law n mag s) := by
  split <;> rfl

theorem waveNone_eq (s : State) :
    waveNone s = { s with
      g := hooked { s.g with waveLaw := .none, waveParam := 0 } s.g.base, rsp := plainOk } := by
  simp only [waveNone, moveSetpoint_eq]
  rfl

/-- `WAVE_OFF` and the four waveform laws share this form (R266 to R270). -/
theorem writesGlide_waveOrNone (law : WaveLaw) (a : Operand) (s : State) :
    WritesGlide s (waveOrNone law a s) := by
  unfold waveOrNone
  split
  · rw [waveNone_eq]; rfl
  · rfl

/-- The word that `ENABLE_OUT` and `DISABLE_OUT` send (R259, R260). -/
def outputWord (enable : Nat) (s : State) : Word := setField (setField (s.readReg 4) 0 3 4) 5 1 enable

@[simp] theorem readReg_writeReg_self (s : State) (i : RegIdx) (v : Word) :
    (s.writeReg i v).readReg i = v := by
  rw [readReg_writeReg, if_pos rfl]

/-- The last write to a register counts. -/
@[simp] theorem writeReg_writeReg (s : State) (i : RegIdx) (v w : Word) :
    (s.writeReg i v).writeReg i w = s.writeReg i w := by
  simp only [State.writeReg, State.setRegs, Vector.set_set]

theorem keyOutput_eq (enable : Nat) (s : State) :
    keyOutput enable s
      = { written 4 (outputWord enable s) s with rsp := writeResponse (s.answer 0) } := by
  simp only [keyOutput, State.writeField, readReg_writeReg_self, writeReg_writeReg, xportWrite_eq]
  rfl

/-- One written register is a row of R40 (R259 to R261). -/
theorem writesOneRegister_written (r : RegIdx) (v : Word) (s : State) (g : Glide) (rsp : Response) :
    WritesOneRegister s { written r v s with g := g, rsp := rsp } r g := by
  have hread : State.readReg { written r v s with g := g, rsp := rsp } r = v :=
    Vector.getElem_set_self r.isLt
  rw [WritesOneRegister, hread]
  rfl

/-- A `SET_FREQ*` writes the cells of its row of R40. -/
theorem SetFreqEnd.writes {f : Int} {mode : StepMode} {step : Operand} {s t : State}
    (h : SetFreqEnd f s (withMode s mode step) t) :
    WritesByRetune s t t.cfg.stepMode (answersUsed s t) := by
  cases h with
  | refused _ => rfl
  | glided _ _ => rfl
  | retuned _ _ hr => cases hr <;> rfl

/-- A tick writes the cells of its row of R40. -/
theorem TickEnd.writes {dt : Operand} {s t : State} (h : TickEnd dt s t) :
    WritesByRetune s t s.cfg.stepMode
      { answersUsed s t with draws := t.env.draws, drawn := t.env.drawn } := by
  cases h with
  | idle _ => rfl
  | retuned hm _ hr =>
    obtain ⟨draws, drawn, rfl⟩ := hm
    cases hr <;> rfl
  | assisted hm =>
    obtain ⟨draws, drawn, rfl⟩ := hm
    rw [assistLock_eq]
    rfl
  | settled hm =>
    obtain ⟨draws, drawn, rfl⟩ := hm
    rfl

/-- `SET_REF` writes the reference cells or the response alone (R255). -/
theorem execSetRef_cases {ref : Operand} {rcount : BitVec 10} {doubler div2 : Bool} {s t : State}
    (h : execSetRef ref rcount doubler div2 s = .next t) :
    (∃ e, t = s.failWith e) ∨
    (rcount ≠ 0 ∧
      t = (s.setCfg { s.cfg with ref := ref, rcount := rcount, doubler := doubler, div2 := div2 }).succeed) := by
  obtain rfl := Host.Outcome.next.inj h
  split
  case h_1 e _ => exact .inl ⟨e, rfl⟩
  case h_2 pfd hpfd =>
    have hok := phaseDetector_ok (par := s.par)
      (c := { s.cfg with ref := ref, rcount := rcount, doubler := doubler, div2 := div2 }) hpfd
    exact .inr ⟨hok.1, rfl⟩

/-- The queries write the response alone (R273, R274). -/
theorem execGetReg_writes {i : BitVec 3} {s t : State} (h : execGetReg i s = .next t) :
    t = { s with rsp := t.rsp } := by
  obtain rfl := Host.Outcome.next.inj h
  split <;> rfl

theorem execGetPlan_writes {sel : BitVec 4} {s t : State} (h : execGetPlan sel s = .next t) :
    t = { s with rsp := t.rsp } := by
  obtain rfl := Host.Outcome.next.inj h
  repeat' split
  all_goals rfl

/-- Every operation writes only the cells of its row of R40. -/
theorem exec_writesOnly {i : Instr} {s t : State} (h : exec i s = .next t) : WritesOnly i s t := by
  cases i with
  | tick dt =>
    obtain rfl := Host.Outcome.next.inj h
    exact (tick_end dt s).writes
  | setFreq _ | setFreqGcd _ | setFreqStep _ _ =>
    obtain rfl := Host.Outcome.next.inj h
    exact (setFreqCommon_end _ _ _ s).writes
  | setRef ref rcount doubler div2 =>
    rcases execSetRef_cases h with ⟨e, rfl⟩ | ⟨-, rfl⟩ <;> rfl
  | enableOut | disableOut =>
    obtain rfl := Host.Outcome.next.inj h
    rw [keyOutput_eq]
    exact writesOneRegister_written _ _ s _ _
  | lockAssist =>
    obtain rfl := Host.Outcome.next.inj h
    rw [assistLock_eq]
    exact writesOneRegister_written _ _ s _ _
  | glideLinear _ | glideExp _ | glideConst _ =>
    obtain rfl := Host.Outcome.next.inj h
    exact writesGlide_selectGlide _ _ _ s
  | waveOff =>
    obtain rfl := Host.Outcome.next.inj h
    rw [waveNone_eq]
    rfl
  | waveRamp _ | waveSine _ | waveTri _ | waveRandom _ =>
    obtain rfl := Host.Outcome.next.inj h
    exact writesGlide_waveOrNone _ _ s
  | getReg i => exact execGetReg_writes h
  | getPlan sel => exact execGetPlan_writes h
  | setClocks _ _ | setPower _ | setPhase _ | glideOff | setDither _ | setPhaseStep _ =>
    obtain rfl := Host.Outcome.next.inj h
    rfl

/-- Settles O56: the row of each operation is `exec_writesOnly`; a new R-counter can only come from
`SET_REF`, which has then checked it. -/
theorem operationsWriteOnlyTheirState : Obligations.OperationsWriteOnlyTheirState := by
  intro i s t h
  have hw : WritesOnly i s t := exec_writesOnly h
  refine ⟨hw, fun hr => ?_⟩
  cases i with
  | setRef ref rcount doubler div2 =>
    rcases execSetRef_cases h with ⟨e, rfl⟩ | ⟨hne, rfl⟩
    · exact hr
    · exact hne
  | _ =>
    have hkeep : t.cfg.rcount = s.cfg.rcount := congrArg (·.cfg.rcount) hw
    rwa [hkeep]

theorem WritesOnly.par_eq {i : Instr} {s t : State} (h : WritesOnly i s t) : t.par = s.par := by
  cases i <;> exact congrArg (·.par) h

/-- What a step can do: nothing, the reset event, an operation, or the refusal of a word (R10, R111, R320). -/
theorem step_cases {s t : State} (h : step s = .next t) :
    t = s ∨ ∃ rest, t = (popped s rest).applyReset ∨ (∃ i, exec i (popped s rest) = .next t) ∨
      t = (popped s rest).failWith .badCommand := by
  rcases hq : s.env.events with _ | ⟨e, rest⟩
  · have hwait : s.nextEvent = none := by rw [State.nextEvent, hq]
    simp only [step, hwait] at h
    exact .inl (Host.Outcome.next.inj h).symm
  · refine .inr ⟨rest, ?_⟩
    cases e with
    | reset =>
      simp only [step, nextEvent_of_events_cons hq] at h
      exact .inl (Host.Outcome.next.inj h).symm
    | command w =>
      cases hd : decode w with
      | ok i =>
        rw [step_of_decode_ok hq hd] at h
        exact .inr (.inl ⟨i, h⟩)
      | error b =>
        simp only [step, nextEvent_of_events_cons hq, hd] at h
        exact .inr (.inr (Host.Outcome.next.inj h).symm)

/-- Settles O55: no row of R40 lists a parameter, and the reset event keeps them. -/
theorem parametersNeverChange : Obligations.ParametersNeverChange := by
  intro s t h
  rcases step_cases h with rfl | ⟨rest, rfl | ⟨i, hi⟩ | rfl⟩
  · rfl
  · rfl
  · exact (exec_writesOnly hi).par_eq
  · rfl

/-- `t` has a new `committed`: all six writes from `s` succeeded, are logged, and committed the plan of a
legal frequency (R34, R197). -/
def CommitsSix (s t : State) : Prop :=
  (∀ k < 6, s.answer k = true) ∧ t.xlog = s.xlog ++ commitEntries s t.regs 6 ∧
    ∃ (f : Nat) (p : Plan), t.committed = some f ∧ LegalFreq s.par f ∧ t.plan = .ok p

/-- A legal frequency is a natural. -/
theorem toNat_of_legalFreq {par : Params} {f : Int} (hf : LegalFreq par f) : (f.toNat : Int) = f :=
  Int.toNat_of_nonneg ((Int.natCast_nonneg _).trans hf.1)

/-- `Retune` changes `committed` only by a complete commit. -/
theorem RetuneEnd.commitsSix {f : Int} {s t : State} {r : Except Failure Bool} (h : RetuneEnd f s r t)
    (hne : t.committed ≠ s.committed) : CommitsSix s t := by
  cases h with
  | unplanned _ => exact absurd rfl hne
  | lost _ _ _ _ => exact absurd rfl hne
  | @tuned p hplan hgood =>
    have hf : LegalFreq s.par f := (retunePlan_ok hplan).1
    exact ⟨hgood, rfl, f.toNat, p, rfl, by rwa [toNat_of_legalFreq hf], rfl⟩

/-- Only what a complete commit reads and writes counts: parameters, log and answers before it, registers,
log, `committed` and plan after it. -/
theorem CommitsSix.congr {s s1 t1 t : State} (h : CommitsSix s1 t1) (hans : ∀ k, s1.answer k = s.answer k)
    (hlog : s1.xlog = s.xlog) (hpar : s1.par = s.par) (hregs : t.regs = t1.regs) (hlog' : t.xlog = t1.xlog)
    (hcom : t.committed = t1.committed) (hplan : t.plan = t1.plan) : CommitsSix s t := by
  obtain ⟨hgood, hsent, f, p, hf, hlegal, hp⟩ := h
  refine ⟨fun k hk => (hans k).symm.trans (hgood k hk), ?_, f, p, hcom.trans hf, hpar ▸ hlegal,
    hplan.trans hp⟩
  rw [hlog', hsent, hlog, hregs, commitEntries_congr hans]

/-- The immediate path of R251 keeps what its `Retune` left of the device. -/
theorem tuneEnd_device (f : Int) (r : Except Failure Bool) (t : State) :
    (tuneEnd f r t).regs = t.regs ∧ (tuneEnd f r t).xlog = t.xlog ∧
    (tuneEnd f r t).committed = t.committed ∧ (tuneEnd f r t).plan = t.plan := by
  cases r <;> exact ⟨rfl, rfl, rfl, rfl⟩

/-- The end of a retuning tick keeps what its `Retune` left of the device (R228). -/
theorem finishRetune_device (r : Except Failure Bool) (t : State) :
    (t.finishRetune r).regs = t.regs ∧ (t.finishRetune r).xlog = t.xlog ∧
    (t.finishRetune r).committed = t.committed ∧ (t.finishRetune r).plan = t.plan := by
  cases r <;> exact ⟨rfl, rfl, rfl, rfl⟩

theorem SetFreqEnd.commitsSix {f : Int} {mode : StepMode} {step : Operand} {s t : State}
    (h : SetFreqEnd f s (withMode s mode step) t) (hne : t.committed ≠ s.committed) :
    CommitsSix s t := by
  cases h with
  | refused _ => exact absurd rfl hne
  | glided _ _ => exact absurd rfl hne
  | @retuned r t _ _ hr =>
    obtain ⟨hregs, hlog, hcom, hplan⟩ := tuneEnd_device f r t
    exact (hr.commitsSix (hcom ▸ hne)).congr (answer_congr rfl) rfl rfl hregs hlog hcom hplan

theorem TickEnd.commitsSix {dt : Operand} {s t : State} (h : TickEnd dt s t)
    (hne : t.committed ≠ s.committed) : CommitsSix s t := by
  cases h with
  | idle _ => exact absurd rfl hne
  | @retuned f m t r hm _ hr =>
    obtain ⟨draws, drawn, rfl⟩ := hm
    obtain ⟨hregs, hlog, hcom, hplan⟩ := finishRetune_device r t.clearLocked
    exact (hr.commitsSix (hcom ▸ hne)).congr (answer_congr' rfl rfl) rfl rfl hregs hlog hcom hplan
  | assisted hm =>
    obtain ⟨draws, drawn, rfl⟩ := hm
    rw [assistLock_eq] at hne
    exact absurd rfl hne
  | settled hm =>
    obtain ⟨draws, drawn, rfl⟩ := hm
    exact absurd rfl hne

/-- Settles O58: the operations without `Retune` have no `committed` in their row of R40; the others
change it by the complete commit of their `Retune` alone. -/
theorem committedOnlyAfterSixWrites : Obligations.CommittedOnlyAfterSixWrites := by
  intro i s t h hne
  have hw : WritesOnly i s t := exec_writesOnly h
  cases i with
  | tick dt =>
    obtain rfl := Host.Outcome.next.inj h
    exact ⟨rfl, (tick_end dt s).commitsSix hne⟩
  | setFreq _ | setFreqGcd _ | setFreqStep _ _ =>
    obtain rfl := Host.Outcome.next.inj h
    exact ⟨rfl, (setFreqCommon_end _ _ _ s).commitsSix hne⟩
  | _ => exact absurd (congrArg (·.committed) hw) hne

end Sys2Proof.Machine
end

section
/-! What the Divider Engine guarantees of a plan it accepts (10_state.md R39 (c)). -/

namespace Sys2Proof.Machine

/-- The loop of step 2 keeps `div = 2 ^ rfdivsel`, and stops by `2 ^ 6` below a ratio of 64 (R152). -/
theorem dividerLoop_pow (ratio fuel k : Nat) :
    ∃ j, dividerLoop ratio fuel (2 ^ k) k = (2 ^ j, j) ∧ (ratio < 64 → k ≤ 6 → j ≤ 6) := by
  induction fuel generalizing k with
  | zero => exact ⟨k, rfl, fun _ h => h⟩
  | succ fuel ih =>
    rw [dividerLoop_succ]
    split
    case isTrue hdouble =>
      obtain ⟨j, hj, hbound⟩ := ih (k + 1)
      rw [← pow_succ', hj]
      refine ⟨j, rfl, fun hratio _ => hbound hratio ?_⟩
      have hpow : 2 ^ k < 2 ^ 6 := hdouble.1.trans_lt hratio
      exact (Nat.pow_lt_pow_iff_right (by norm_num)).mp hpow
    case isFalse => exact ⟨k, rfl, fun _ h => h⟩

/-- A legal frequency has an output divider `2 ^ rfdivsel` of at most 64 (R152). -/
theorem outputDivider_of_legal {f : Nat} (hf : Config.fOutMin ≤ f) :
    (outputDivider f).1 = 2 ^ (outputDivider f).2 ∧ (outputDivider f).2 ≤ 6 := by
  simp only [Config.fOutMin] at hf
  have hratio : 2200000000 / f < 64 := Nat.div_lt_of_lt_mul (by omega)
  obtain ⟨j, hj, hbound⟩ := dividerLoop_pow (2200000000 / f) 7 0
  rw [outputDivider_eq, show (1 : Nat) = 2 ^ 0 from rfl, hj]
  exact ⟨rfl, hbound hratio (Nat.zero_le 6)⟩

/-- A positive integer part gives a positive achieved frequency (R158). -/
theorem achievedFreq_pos {pfd : Rat} {nint div : Nat} (frac mod : Nat) (hpfd : 0 < pfd) (hnint : 0 < nint)
    (hdiv : 0 < div) : 0 < achievedFreq pfd nint frac mod div := by
  have hn : (0 : Rat) < nint := Nat.cast_pos.mpr hnint
  have hd : (0 : Rat) < div := Nat.cast_pos.mpr hdiv
  unfold achievedFreq
  split <;> positivity

/-- The lowest legal `nint` is positive (R5, R159). -/
theorem nintMin_pos (presc : Bool) : 0 < nintMin presc := by
  cases presc <;> decide

/-- Every plan that the engine accepts is as R39 (c) asks. -/
theorem planOk_of_engineEval {par : Params} {c : Cfg} {f : Int} {n : Nat} {p : Plan}
    (h : engineEval par c f n = .ok p) : PlanOk par p := by
  obtain ⟨⟨hmin, hmax⟩, hstep, pfd, hpd, hp, hmod, hmod', hfrac, hnint, hnint'⟩ := engineEval_ok h
  obtain ⟨-, hpfd, hpfd', -⟩ := phaseDetector_ok hpd
  have hmin' : Config.fOutMin ≤ f.toNat := by omega
  have hpos : 0 < pfd := (pfdMin_pos par).trans_le hpfd
  have hnint0 : 0 < p.nint := (nintMin_pos p.presc).trans_le hnint
  subst hp
  exact
    { modRange := ⟨hmod, hmod'⟩
      fracRange := hfrac
      nintRange := ⟨hnint, hnint'⟩
      divider := outputDivider_of_legal hmin'
      pfdRange := ⟨hpfd, hpfd'⟩
      achievedPositive := achievedFreq_pos _ _ hpos hnint0 (outputDivider_pos f.toNat)
      stepPositive := Nat.one_le_iff_ne_zero.mpr hstep
      requested := ⟨f.toNat, hmin', by omega, rfl⟩ }

/-- Every plan of a `Retune` is as R39 (c) asks. -/
theorem planOk_of_retunePlan {par : Params} {c : Cfg} {f : Int} {p : Plan}
    (h : retunePlan par c f = .ok p) : PlanOk par p := by
  obtain ⟨-, n, hn⟩ := retunePlan_ok h
  exact planOk_of_engineEval hn

/-- A `Retune` that finds no plan records a reason that may stand in `plan` (R291). -/
theorem recorded_of_retunePlan {par : Params} {c : Cfg} {f : Int} {e : Failure}
    (h : retunePlan par c f = .error e) : e.recorded = true := by
  rcases retunePlan_error h with rfl | rfl | ⟨-, rfl⟩ | ⟨-, rfl | rfl | rfl⟩ <;> rfl

end Sys2Proof.Machine
end

section
/-! The address field of a register image, bits 2 to 0 (10_state.md R39 (e)). -/

namespace Sys2Proof.Machine

/-- `SetField` of the address itself (R142). -/
theorem address_setField_zero (w : Word) (v : Nat) : getField (setField w 0 3 v) 0 3 = v % 8 := by
  refine Nat.eq_of_testBit_eq fun k => ?_
  rw [getField_testBit, setField_getLsbD, show 8 = 2 ^ 3 from rfl, Nat.testBit_mod_two_pow]
  by_cases hk : k < 3 <;> simp [hk]

/-- `SetField` of any other field keeps the address (R142). -/
theorem address_setField_of_le (w : Word) {start : Nat} (length v : Nat) (span : start + length ≤ 32)
    (hstart : 3 ≤ start) : getField (setField w start length v span) 0 3 = getField w 0 3 := by
  refine Nat.eq_of_testBit_eq fun k => ?_
  rw [getField_testBit, getField_testBit, setField_getLsbD]
  by_cases hk : k < 3
  · rw [if_neg (by omega)]
  · simp [hk]

/-- `Pack` gives every image the address of its register (R101 to R106). -/
theorem address_packRegs (c : Cfg) (p : Plan) (r : Vector Word 6) (i : RegIdx) :
    getField (packRegs c p r)[i] 0 3 = i.val := by
  match i with
  | 0 =>
    change getField (packWord0 p r[0]) 0 3 = 0
    simp [packWord0, address_setField_of_le, address_setField_zero]
  | 1 =>
    change getField (packWord1 c p r[1]) 0 3 = 1
    simp [packWord1, address_setField_of_le, address_setField_zero]
  | 2 =>
    change getField (packWord2 c p r[2]) 0 3 = 2
    simp [packWord2, address_setField_of_le, address_setField_zero]
  | 3 =>
    change getField (packWord3 c p r[3]) 0 3 = 3
    simp [packWord3, address_setField_of_le, address_setField_zero]
  | 4 =>
    change getField (packWord4 c p r[4]) 0 3 = 4
    simp [packWord4, address_setField_of_le, address_setField_zero]
  | 5 =>
    change getField (packWord5 r[5]) 0 3 = 5
    simp [packWord5, address_setField_of_le, address_setField_zero]

/-- `ENABLE_OUT` and `DISABLE_OUT` send a word with the address 4 (R259, R260). -/
theorem address_outputWord (enable : Nat) (s : State) : getField (outputWord enable s) 0 3 = 4 := by
  rw [outputWord, address_setField_of_le _ _ _ _ (by norm_num), address_setField_zero]

/-- A lock-assist write sends a word with the address of its register: the lock-assist bit lies above the
address (R117, R230). -/
theorem address_assistWord (s : State) :
    getField (assistWord s) 0 3 = s.par.lockAssistReg.val := by
  have hlt := s.par.lockAssistReg.isLt
  rw [assistWord, address_setField_of_le _ _ _ _ (lockAssist_free s.par).1, address_setField_zero,
    Nat.mod_eq_of_lt (by omega)]

end Sys2Proof.Machine
end

section
/-! The invariant of 10_state.md R39: it speaks of the glide group and of the device's side apart, reset
meets it, and every step keeps it. -/

namespace Sys2Proof.Machine

/-- The clauses of R39 on the glide group. -/
def GlideOk (par : Params) (g : Glide) : Prop :=
  (g.glideLaw = .none ↔ g.glideParam = 0) ∧ (g.waveLaw = .none ↔ g.waveParam = 0) ∧
    g.phaseAcc < par.tableLen ∧ 0 ≤ g.base

/-- Each image is untouched or carries its own address. -/
def AddressesOk (r : Vector Word 6) : Prop :=
  ∀ i : RegIdx, getField r[i] 0 3 = 0 ∨ getField r[i] 0 3 = i.val

/-- The clauses of R39 and R291 on the plan register. -/
def PlanRegOk (par : Params) : PlanReg → Prop
  | .none => True
  | .failed e => e.recorded = true
  | .ok p => PlanOk par p

theorem planRegOk_iff (par : Params) (plan : PlanReg) :
    PlanRegOk par plan ↔ (∀ p, plan = .ok p → PlanOk par p) ∧ ∀ e, plan = .failed e → e.recorded = true := by
  cases plan <;> simp [PlanRegOk]

/-- The clause of R39 on `committed`. -/
def CommittedOk (par : Params) : Option Nat → Prop
  | none => True
  | some f => Config.fOutMin ≤ f ∧ f ≤ par.fOutMax

theorem committedOk_iff (par : Params) (committed : Option Nat) :
    CommittedOk par committed ↔ ∀ f, committed = some f → Config.fOutMin ≤ f ∧ f ≤ par.fOutMax := by
  cases committed <;> simp [CommittedOk]

/-- The clauses of R39 on the device's side of the state. -/
def State.DevOk (s : State) : Prop :=
  AddressesOk s.regs ∧ PlanRegOk s.par s.plan ∧ CommittedOk s.par s.committed

/-- The invariant is the two halves together. -/
theorem inv_iff (s : State) : s.Inv ↔ GlideOk s.par s.g ∧ s.DevOk := by
  rw [State.DevOk, planRegOk_iff, committedOk_iff]
  constructor
  · rintro ⟨hglide, hwave, hphase, hplan, hfailed, hcom, haddr, hbase⟩
    exact ⟨⟨hglide, hwave, hphase, hbase⟩, haddr, ⟨hplan, hfailed⟩, hcom⟩
  · rintro ⟨⟨hglide, hwave, hphase, hbase⟩, haddr, ⟨hplan, hfailed⟩, hcom⟩
    exact ⟨hglide, hwave, hphase, hplan, hfailed, hcom, haddr, hbase⟩

/-! ## The device's side -/

theorem addressesOk_packRegs (c : Cfg) (p : Plan) (r : Vector Word 6) : AddressesOk (packRegs c p r) :=
  fun i => .inr (address_packRegs c p r i)

/-- Writing one image with its own address keeps the clause. -/
theorem AddressesOk.set {r : Vector Word 6} (h : AddressesOk r) (i : RegIdx) {v : Word}
    (hv : getField v 0 3 = i.val) : AddressesOk (r.set i.val v i.isLt) := by
  intro j
  rw [Fin.getElem_fin, Vector.getElem_set]
  split
  case isTrue hij => exact .inr (hv.trans hij)
  case isFalse => exact h j

/-- One written register keeps the device's side as R39 asks (R259 to R261). -/
theorem devOk_written {s : State} (h : s.DevOk) {i : RegIdx} {v : Word} (hv : getField v 0 3 = i.val) :
    (written i v s).DevOk := by
  obtain ⟨haddr, hrest⟩ := h
  exact ⟨haddr.set i hv, hrest⟩

theorem devOk_assistLock {s : State} (h : s.DevOk) : (assistLock s).DevOk := by
  rw [assistLock_eq]
  exact devOk_written h (address_assistWord s)

theorem devOk_keyOutput {s : State} (h : s.DevOk) (enable : Nat) : (keyOutput enable s).DevOk := by
  rw [keyOutput_eq]
  exact devOk_written h (address_outputWord enable s)

/-- `Retune` keeps the device's side as R39 asks, whatever its end. -/
theorem RetuneEnd.devOk {f : Int} {s t : State} {r : Except Failure Bool} (h : RetuneEnd f s r t)
    (hs : s.DevOk) : t.DevOk := by
  obtain ⟨haddr, -, hcom⟩ := hs
  cases h with
  | unplanned hplan => exact ⟨haddr, recorded_of_retunePlan hplan, hcom⟩
  | lost hplan _ _ _ => exact ⟨addressesOk_packRegs _ _ _, planOk_of_retunePlan hplan, hcom⟩
  | tuned hplan _ =>
    obtain ⟨hmin, hmax⟩ := (retunePlan_ok hplan).1
    exact ⟨addressesOk_packRegs _ _ _, planOk_of_retunePlan hplan, by omega, Int.toNat_le.mpr hmax⟩

theorem SetFreqEnd.devOk {f : Int} {mode : StepMode} {step : Operand} {s t : State}
    (h : SetFreqEnd f s (withMode s mode step) t) (hs : s.DevOk) : t.DevOk := by
  cases h with
  | refused _ => exact hs
  | glided _ _ => exact hs
  | @retuned r t _ _ hr =>
    have ht : t.DevOk := hr.devOk hs
    cases r <;> exact ht

theorem TickEnd.devOk {dt : Operand} {s t : State} (h : TickEnd dt s t) (hs : s.DevOk) : t.DevOk := by
  cases h with
  | idle _ => exact hs
  | @retuned f m t r hm _ hr =>
    obtain ⟨draws, drawn, rfl⟩ := hm
    have ht : t.DevOk := hr.devOk hs
    cases r <;> exact ht
  | assisted hm =>
    obtain ⟨draws, drawn, rfl⟩ := hm
    exact devOk_assistLock hs
  | settled hm =>
    obtain ⟨draws, drawn, rfl⟩ := hm
    exact hs

/-- An operation whose row of R40 has neither images nor plan nor `committed` leaves the device's side. -/
theorem WritesOnly.devOk {i : Instr} {s t : State} (h : WritesOnly i s t) (hi : canWriteRegs i = false)
    (hs : s.DevOk) : t.DevOk := by
  have hcells : t.regs = s.regs ∧ t.plan = s.plan ∧ t.committed = s.committed := by
    cases i
    case tick | setFreq | setFreqGcd | setFreqStep | enableOut | disableOut | lockAssist =>
      exact nomatch hi
    all_goals exact ⟨congrArg (·.regs) h, congrArg (·.plan) h, congrArg (·.committed) h⟩
  obtain ⟨hregs, hplan, hcom⟩ := hcells
  rwa [State.DevOk, h.par_eq, hregs, hplan, hcom]

theorem exec_devOk {i : Instr} {s t : State} (h : exec i s = .next t) (hs : s.DevOk) : t.DevOk := by
  cases i
  case tick dt =>
    obtain rfl := Host.Outcome.next.inj h
    exact (tick_end dt s).devOk hs
  case setFreq | setFreqGcd | setFreqStep =>
    obtain rfl := Host.Outcome.next.inj h
    exact (setFreqCommon_end _ _ _ s).devOk hs
  case enableOut | disableOut =>
    obtain rfl := Host.Outcome.next.inj h
    exact devOk_keyOutput hs _
  case lockAssist =>
    obtain rfl := Host.Outcome.next.inj h
    exact devOk_assistLock hs
  all_goals exact (exec_writesOnly h).devOk rfl hs

/-! ## The glide group -/

theorem glideOk_glideNone {s : State} (hs : GlideOk s.par s.g) : GlideOk s.par (glideNone s).g := by
  obtain ⟨-, hwave, hphase, hbase⟩ := hs
  exact ⟨iff_of_true rfl rfl, hwave, hphase, hbase⟩

/-- A selected glide law has a nonzero parameter, "none" has 0 (R262 to R265). -/
theorem glideOk_selectGlide {s : State} (hs : GlideOk s.par s.g) (n : Operand) {law : GlideLaw}
    (hlaw : law ≠ .none) (mag : Operand) :
    GlideOk s.par (if n = 0 then glideNone s else selectGlide law n mag s).g := by
  split
  case isTrue => exact glideOk_glideNone hs
  case isFalse hn =>
    obtain ⟨-, hwave, hphase, hbase⟩ := hs
    exact ⟨iff_of_false hlaw hn, hwave, hphase, hbase⟩

theorem glideOk_waveNone {s : State} (hs : GlideOk s.par s.g) : GlideOk s.par (waveNone s).g := by
  obtain ⟨hglide, -, hphase, hbase⟩ := hs
  rw [waveNone_eq]
  exact ⟨hglide, iff_of_true rfl rfl, hphase, hbase⟩

/-- A selected waveform law has a nonzero parameter, "none" has 0 (R266 to R270). -/
theorem glideOk_waveOrNone {s : State} (hs : GlideOk s.par s.g) {law : WaveLaw} (hlaw : law ≠ .none)
    (a : Operand) : GlideOk s.par (waveOrNone law a s).g := by
  unfold waveOrNone
  split
  case isTrue => exact glideOk_waveNone hs
  case isFalse ha =>
    obtain ⟨hglide, -, hphase, hbase⟩ := hs
    exact ⟨hglide, iff_of_false hlaw ha, hphase, hbase⟩

/-- A new base frequency is an operand, so not negative; the laws stay (R251). -/
theorem glideOk_basedGlide {par : Params} {g : Glide} (hg : GlideOk par g) {f : Int} (hf : 0 ≤ f) :
    GlideOk par (basedGlide g f) := by
  obtain ⟨hglide, hwave, hphase, -⟩ := hg
  unfold basedGlide
  split <;> exact ⟨hglide, hwave, hphase, hf⟩

theorem glideOk_tunedGlide {par : Params} {g : Glide} (hg : GlideOk par g) {f : Int} (hf : 0 ≤ f) :
    GlideOk par (tunedGlide g f) := by
  obtain ⟨hglide, hwave, hphase, -⟩ := hg
  exact ⟨hglide, hwave, hphase, hf⟩

/-- Steps 2 to 4 of a tick keep the laws and the base, and the phase below the table's length (R212). -/
theorem glideOk_moveFrequency {s : State} (hs : GlideOk s.par s.g) (dt : Operand) :
    GlideOk s.par (moveFrequency dt s).g := by
  obtain ⟨hglide, hwave, -, hbase⟩ := hs
  obtain ⟨v, -, hg⟩ := moveFrequency_g dt s
  rw [hg]
  exact ⟨hglide, hwave, Nat.mod_lt _ (tableLen_pos s.par), hbase⟩

/-- `Retune` leaves the glide group alone (R197). -/
theorem RetuneEnd.g_eq {f : Int} {s t : State} {r : Except Failure Bool} (h : RetuneEnd f s r t) :
    t.g = s.g := by
  cases h <;> rfl

theorem SetFreqEnd.glideOk {f : Int} {mode : StepMode} {step : Operand} {s t : State}
    (h : SetFreqEnd f s (withMode s mode step) t) (hs : GlideOk s.par s.g) (hf : 0 ≤ f) :
    GlideOk s.par t.g := by
  cases h with
  | refused _ => exact hs
  | glided _ _ => exact glideOk_basedGlide hs hf
  | @retuned r t _ _ hr =>
    have ht : GlideOk s.par t.g := by rw [hr.g_eq]; exact hs
    cases r with
    | error e => exact ht
    | ok m => exact glideOk_tunedGlide ht hf

theorem TickEnd.glideOk {dt : Operand} {s t : State} (h : TickEnd dt s t) (hs : GlideOk s.par s.g) :
    GlideOk s.par t.g := by
  have hmoved : GlideOk s.par (moveFrequency dt s).g := glideOk_moveFrequency hs dt
  cases h with
  | idle _ => exact hs
  | @retuned f m t r hm _ hr =>
    obtain ⟨draws, drawn, rfl⟩ := hm
    have ht : GlideOk s.par t.g := by rw [hr.g_eq]; exact hmoved
    cases r <;> exact ht
  | assisted hm =>
    obtain ⟨draws, drawn, rfl⟩ := hm
    rw [assistLock_eq]
    exact hmoved
  | settled hm =>
    obtain ⟨draws, drawn, rfl⟩ := hm
    exact hmoved

theorem exec_glideOk {i : Instr} {s t : State} (h : exec i s = .next t) (hs : GlideOk s.par s.g) :
    GlideOk s.par t.g := by
  have hw : WritesOnly i s t := exec_writesOnly h
  cases i
  case tick dt =>
    obtain rfl := Host.Outcome.next.inj h
    exact (tick_end dt s).glideOk hs
  case setFreq | setFreqGcd | setFreqStep =>
    obtain rfl := Host.Outcome.next.inj h
    exact (setFreqCommon_end _ _ _ s).glideOk hs (Int.natCast_nonneg _)
  case glideOff =>
    obtain rfl := Host.Outcome.next.inj h
    exact glideOk_glideNone hs
  case glideLinear | glideExp | glideConst =>
    obtain rfl := Host.Outcome.next.inj h
    exact glideOk_selectGlide hs _ (by decide) _
  case waveOff =>
    obtain rfl := Host.Outcome.next.inj h
    exact glideOk_waveNone hs
  case waveRamp | waveSine | waveTri | waveRandom =>
    obtain rfl := Host.Outcome.next.inj h
    exact glideOk_waveOrNone hs (by decide) _
  case lockAssist | setDither | setPhaseStep =>
    have hg := congrArg (·.g) hw
    dsimp only at hg
    rw [hg]
    exact hs
  all_goals
    have hg : t.g = s.g := congrArg (·.g) hw
    rw [hg]
    exact hs

/-! ## The whole machine -/

/-- Every operation keeps the invariant. -/
theorem exec_inv {i : Instr} {s t : State} (h : exec i s = .next t) (hs : s.Inv) : t.Inv := by
  obtain ⟨hglide, hdev⟩ := (inv_iff s).mp hs
  have hpar : t.par = s.par := (exec_writesOnly h).par_eq
  exact (inv_iff t).mpr ⟨hpar ▸ exec_glideOk h hglide, exec_devOk h hdev⟩

/-- The reset values meet the invariant under all parameters (R38, R320). -/
theorem applyReset_inv (s : State) : s.applyReset.Inv := by
  have haddr : AddressesOk State.reset.regs := by
    have hzero : ∀ i : RegIdx, getField State.reset.regs[i] 0 3 = 0 := by decide
    exact fun i => .inl (hzero i)
  have hglide : GlideOk s.par State.reset.g :=
    ⟨iff_of_true rfl rfl, iff_of_true rfl rfl, tableLen_pos s.par, le_rfl⟩
  exact (inv_iff _).mpr ⟨hglide, haddr, trivial, trivial⟩

/-- Settles O51: an operation keeps both halves of the invariant, the reset event sets them up, and a
refused word or an empty queue touches neither. -/
theorem stepKeepsInvariant : Obligations.StepKeepsInvariant := by
  intro s t hs h
  rcases step_cases h with rfl | ⟨rest, rfl | ⟨i, hi⟩ | rfl⟩
  case inl => exact hs
  case inr.inl => exact applyReset_inv _
  case inr.inr.inl =>
    have hpopped : (popped s rest).Inv := (inv_iff _).mpr ((inv_iff s).mp hs)
    exact exec_inv hi hpopped
  case inr.inr.inr => exact (inv_iff _).mpr ((inv_iff s).mp hs)

/-- Settles O52: the reset state is what the reset event leaves of it. -/
theorem resetMeetsInvariant : Obligations.ResetMeetsInvariant := applyReset_inv State.reset

/-- Settles O7: the images by their index, every other cell as the reset state writes it. -/
theorem resetValues : Obligations.ResetValues := by
  have himages : ∀ i : RegIdx, State.reset.readReg i = 0x00000000 := by decide
  exact ⟨himages, rfl, rfl, rfl, rfl, rfl, rfl, rfl, rfl, rfl, rfl, rfl, rfl, rfl, rfl, rfl, rfl, rfl, rfl,
    rfl, rfl, rfl, rfl, rfl, rfl, rfl, rfl, rfl, rfl⟩

end Sys2Proof.Machine
end

section
/-! The random source, the commit and the failing ends of a `SET_FREQ*` (20_memory.md R73, R81;
44_controller_ops.md R251; 60_exceptions.md R293). -/

namespace Sys2Proof.Machine

/-- Settles O12: a draw is the raw draw brought into the range, and one that lies in the range stays. -/
theorem randomDrawsFillTheClosedRange : Obligations.RandomDrawsFillTheClosedRange := by
  intro lo hi s hrange
  refine ⟨?inRange, ?frame, ?attained⟩
  case inRange => exact intoRange_mem lo hi s.nextDraw hrange
  case frame => rw [rand_eq]
  case attained =>
    intro r hlo hhi
    rw [rand_eq]
    exact intoRange_self lo hi r hlo hhi

/-- Sending the first `k` registers of the commit order logs the first `k` entries of a commit (R81). -/
theorem sent_take_commitOrder (s : State) {k : Nat} (hk : k ≤ 6) :
    sent s (commitOrder.take k)
      = { s with xlog := s.xlog ++ commitEntries s s.regs k, env := s.env.afterWrites k } := by
  rw [sent, List.length_take_of_le (show k ≤ commitOrder.length from hk)]
  rfl

/-- Settles O26: six good answers send the whole order, a first bad one at `k` its first `k + 1`
registers. -/
theorem commitWritesInDescendingOrder : Obligations.CommitWritesInDescendingOrder := by
  intro s
  refine ⟨fun hgood => ?whole, fun k hk hgood hbad => ?cut⟩
  case whole =>
    have hcommit : commit s = (true, sent s (commitOrder.take 6)) := commitFrom_of_good commitOrder s hgood
    rw [hcommit, sent_take_commitOrder s le_rfl]
  case cut =>
    have hcommit : commit s = (false, sent s (commitOrder.take (k + 1))) :=
      commitFrom_of_bad commitOrder s k hk hgood hbad
    rw [hcommit, sent_take_commitOrder s hk]

/-- The immediate path of R251: a legal frequency with no law active is retuned at once. -/
theorem setFreqCommon_of_noLaw {f : Int} {mode : StepMode} {step : Operand} {s s1 : State}
    (hs1 : s1 = withMode s mode (if mode = .direct then step else s.cfg.step))
    (hf : LegalFreq s.par f) (hlaw : NoLaw s) :
    setFreqCommon f mode step s = tuneEnd f (retune f s1).1 (retune f s1).2 := by
  have hrange : ¬freqInRange s.par f = false := by simp [(freqInRange_iff s.par f).mpr hf]
  rw [setFreqCommon, if_neg hrange, ← withMode_eq, ← hs1]
  exact (if_pos ((idle_iff s1).mpr (hs1 ▸ hlaw))).trans (setFreqNow_eq f s1)

/-- An operation that is `SetFreqCommon` records the reason where it finds no plan (R251, R293). -/
theorem failsToPlan_of_exec {i : Instr} {f step : Operand} {mode : StepMode} {s : State}
    (hexec : exec i s = .next (setFreqCommon (unsigned f) mode step s)) :
    FailsToPlan i f s (withMode s mode (if mode = .direct then step else s.cfg.step)) := by
  intro e hlaw hf hplan
  rw [hexec, setFreqCommon_of_noLaw rfl hf hlaw, retune_eq, hplan]
  rfl

/-- An operation that is `SetFreqCommon` leaves the commit cut after write `k` where it loses that write
(R81, R251, R293). -/
theorem failsToCommit_of_exec {i : Instr} {f step : Operand} {mode : StepMode} {s : State}
    (hexec : exec i s = .next (setFreqCommon (unsigned f) mode step s)) :
    FailsToCommit i f s (withMode s mode (if mode = .direct then step else s.cfg.step)) := by
  intro p k hlaw hplan hk hgood hbad
  have hf : LegalFreq s.par (unsigned f) := (retunePlan_ok hplan).1
  have hcut := retuneCommit_of_bad (unsigned f) p
    (withMode s mode (if mode = .direct then step else s.cfg.step)) k hk hgood hbad
  rw [hexec, setFreqCommon_of_noLaw rfl hf hlaw, retune_eq, hplan]
  dsimp only
  rw [hcut]
  rfl

/-- Settles O28: the three operations are `SetFreqCommon`, each with its step mode and step. -/
theorem setFreqFailuresKeepFrequencies : Obligations.SetFreqFailuresKeepFrequencies := by
  intro s f step
  have hfreq : exec (.setFreq f) s = .next (setFreqCommon (unsigned f) .resolve 0 s) := rfl
  have hgcd : exec (.setFreqGcd f) s = .next (setFreqCommon (unsigned f) .resolveGcd 0 s) := rfl
  have hstep : exec (.setFreqStep f step) s = .next (setFreqCommon (unsigned f) .direct step s) := rfl
  exact ⟨⟨failsToPlan_of_exec hfreq, failsToPlan_of_exec hgcd, failsToPlan_of_exec hstep⟩,
    failsToCommit_of_exec hfreq, failsToCommit_of_exec hgcd, failsToCommit_of_exec hstep⟩

end Sys2Proof.Machine
end

section
/-! What one operation adds to the write log (20_memory.md R80, 43_glide_tick.md R231). -/

namespace Sys2Proof.Machine

/-- `t` has one more logged write than `s`: an image of `t`, with the next answer (R70). -/
def LogsOneWrite (s t : State) : Prop :=
  ∃ r : RegIdx, t.xlog = s.xlog ++ [{ idx := r, val := t.readReg r, ok := s.answer 0 }]

/-- `t` has one more logged commit than `s`: the images of `t` up to write `k`, which failed if it was
not the last (R81). -/
def LogsCommit (s t : State) : Prop :=
  ∃ k < 6, (∀ j < k, s.answer j = true) ∧ (k < 5 → s.answer k = false) ∧
    t.xlog = s.xlog ++ commitEntries s t.regs (k + 1)

/-- Only the answers and the log before a commit and the images and the log after it count. -/
theorem LogsCommit.congr {s s1 t t1 : State} (h : LogsCommit s1 t1) (hans : ∀ k, s1.answer k = s.answer k)
    (hlog : s1.xlog = s.xlog) (hregs : t.regs = t1.regs) (hlog' : t.xlog = t1.xlog) : LogsCommit s t := by
  obtain ⟨k, hk, hgood, hbad, hsent⟩ := h
  refine ⟨k, hk, fun j hj => (hans j).symm.trans (hgood j hj), fun hlt => (hans k).symm.trans (hbad hlt), ?_⟩
  rw [hlog', hsent, hlog, hregs, commitEntries_congr hans]

/-- One written register is one logged write of its image, whatever else of the operation follows. -/
theorem logsOneWrite_written (r : RegIdx) (v : Word) (s : State) (g : Glide) (rsp : Response) :
    LogsOneWrite s { written r v s with g := g, rsp := rsp } := by
  have hread : State.readReg { written r v s with g := g, rsp := rsp } r = v :=
    Vector.getElem_set_self r.isLt
  exact ⟨r, by rw [hread]; rfl⟩

theorem logsOneWrite_keyOutput (enable : Nat) (s : State) : LogsOneWrite s (keyOutput enable s) := by
  rw [keyOutput_eq]
  exact logsOneWrite_written _ _ s _ _

theorem logsOneWrite_assistLock (s : State) : LogsOneWrite s (assistLock s) := by
  rw [assistLock_eq]
  exact logsOneWrite_written _ _ s _ _

/-- `Retune` logs nothing without a plan, and one commit with one (R197). -/
theorem RetuneEnd.logs {f : Int} {s t : State} {r : Except Failure Bool} (h : RetuneEnd f s r t) :
    t.xlog = s.xlog ∨ LogsCommit s t := by
  cases h with
  | unplanned _ => exact .inl rfl
  | @lost p k _ hk hgood hbad => exact .inr ⟨k, hk, hgood, fun _ => hbad, rfl⟩
  | tuned _ hgood =>
    have hearlier : ∀ j < 5, s.answer j = true := fun j hj => hgood j (by omega)
    exact .inr ⟨5, by omega, hearlier, fun hlt => absurd hlt (lt_irrefl 5), rfl⟩

theorem SetFreqEnd.logs {f : Int} {mode : StepMode} {step : Operand} {s t : State}
    (h : SetFreqEnd f s (withMode s mode step) t) : t.xlog = s.xlog ∨ LogsCommit s t := by
  cases h with
  | refused _ => exact .inl rfl
  | glided _ _ => exact .inl rfl
  | @retuned r t _ _ hr =>
    obtain ⟨hregs, hlog, -⟩ := tuneEnd_device f r t
    exact hr.logs.imp hlog.trans fun hc => hc.congr (answer_congr rfl) rfl hregs hlog

/-- A tick either retunes or makes the lock-assist write, never both (R231). -/
theorem TickEnd.logs {dt : Operand} {s t : State} (h : TickEnd dt s t) :
    t.xlog = s.xlog ∨ LogsOneWrite s t ∨ LogsCommit s t := by
  cases h with
  | idle _ => exact .inl rfl
  | @retuned f m t r hm _ hr =>
    obtain ⟨draws, drawn, rfl⟩ := hm
    obtain ⟨hregs, hlog, -⟩ := finishRetune_device r t.clearLocked
    exact hr.logs.imp hlog.trans fun hc => .inr (hc.congr (answer_congr' rfl rfl) rfl hregs hlog)
  | assisted hm =>
    obtain ⟨draws, drawn, rfl⟩ := hm
    exact .inr (.inl (logsOneWrite_assistLock _))
  | settled hm =>
    obtain ⟨draws, drawn, rfl⟩ := hm
    exact .inl rfl

/-- An operation whose row of R40 has no images logs nothing. -/
theorem WritesOnly.xlog_eq {i : Instr} {s t : State} (h : WritesOnly i s t) (hi : canWriteRegs i = false) :
    t.xlog = s.xlog := by
  cases i
  case tick | setFreq | setFreqGcd | setFreqStep | enableOut | disableOut | lockAssist =>
    exact nomatch hi
  all_goals exact congrArg (·.xlog) h

/-- Settles O53: a tick and a `SET_FREQ*` log as their ends do, the three output operations make one
write, and no other row of R40 has the log. -/
theorem atMostOneCommitPerOperation : Obligations.AtMostOneCommitPerOperation := by
  intro i s t h
  cases i
  case tick dt =>
    obtain rfl := Host.Outcome.next.inj h
    exact (tick_end dt s).logs.imp_right fun hw => hw.imp (⟨rfl, ·⟩) (⟨rfl, ·⟩)
  case setFreq | setFreqGcd | setFreqStep =>
    obtain rfl := Host.Outcome.next.inj h
    exact (setFreqCommon_end _ _ _ s).logs.imp_right fun hc => .inr ⟨rfl, hc⟩
  case enableOut | disableOut =>
    obtain rfl := Host.Outcome.next.inj h
    exact .inr (.inl ⟨rfl, logsOneWrite_keyOutput _ s⟩)
  case lockAssist =>
    obtain rfl := Host.Outcome.next.inj h
    exact .inr (.inl ⟨rfl, logsOneWrite_assistLock s⟩)
  all_goals exact .inl ((exec_writesOnly h).xlog_eq rfl)

end Sys2Proof.Machine
end

section
/-! The command word as its three fields (30_encoding.md R107, R108, R110, R111): what the decoder accepts,
and that the reserved masks say the same. -/

namespace Sys2Proof.Machine

/-! ## Splitting a bit string into parts -/

/-- A span is put together from two parts exactly where these are its upper and its lower bits. -/
theorem extractLsb'_eq_append_iff {w m n : Nat} (x : BitVec w) (k : Nat) (hi : BitVec m) (lo : BitVec n) :
    x.extractLsb' k (m + n) = hi ++ lo ↔ x.extractLsb' (k + n) m = hi ∧ x.extractLsb' k n = lo := by
  rw [← BitVec.extractLsb'_append_extractLsb'_eq_extractLsb' rfl]
  constructor
  · intro h
    have hleft := congrArg (BitVec.extractLsb' n m) h
    have hright := congrArg (BitVec.extractLsb' 0 n) h
    rw [BitVec.extractLsb'_append_eq_left, BitVec.extractLsb'_append_eq_left] at hleft
    rw [BitVec.extractLsb'_append_eq_right, BitVec.extractLsb'_append_eq_right] at hright
    exact ⟨hleft, hright⟩
  · rintro ⟨rfl, rfl⟩
    rfl

/-- A whole bit string, put together from two parts. -/
theorem eq_append_iff {m n : Nat} (x : BitVec (m + n)) (hi : BitVec m) (lo : BitVec n) :
    x = hi ++ lo ↔ x.extractLsb' n m = hi ∧ x.extractLsb' 0 n = lo := by
  have h := extractLsb'_eq_append_iff x 0 hi lo
  rwa [BitVec.extractLsb'_eq_self, Nat.zero_add] at h

/-- A one-bit span is a bit. -/
theorem extractLsb'_eq_ofBool_iff {n : Nat} (x : BitVec n) (k : Nat) (c : Bool) :
    x.extractLsb' k 1 = BitVec.ofBool c ↔ x.getLsbD k = c := by
  have hbit : x.extractLsb' k 1 = BitVec.ofBool (x.getLsbD k) := by
    apply BitVec.eq_of_getLsbD_eq
    intro j hj
    simp [Nat.lt_one_iff.mp hj]
  rw [hbit, BitVec.ofBool_eq_iff_eq]

/-- A command word has no bits but those of its three fields (R107). -/
theorem eq_append_fields (w : CmdWord) :
    w = (opField w ++ aField w ++ bField w : BitVec (8 + 64 + 64)) := by
  have hupper := (extractLsb'_eq_append_iff w 64 (opField w) (aField w)).mpr ⟨rfl, rfl⟩
  exact (eq_append_iff (m := 8 + 64) (n := 64) w _ _).mpr ⟨hupper, rfl⟩

/-! ## The operands that share `B` with reserved bits (R108) -/

@[simp] theorem eq_operandB_setRef_iff (b ref : Operand) (rcount : BitVec 10) (doubler div2 : Bool) :
    b = (Instr.setRef ref rcount doubler div2).operandB ↔
      b.extractLsb' 12 52 = 0 ∧ b.getLsbD 11 = div2 ∧ b.getLsbD 10 = doubler ∧
        b.extractLsb' 0 10 = rcount := by
  have hsplit := eq_append_iff b (0#52 ++ BitVec.ofBool div2 ++ BitVec.ofBool doubler) rcount
  have hupper := extractLsb'_eq_append_iff b 10 (0#52 ++ BitVec.ofBool div2) (BitVec.ofBool doubler)
  have hreserved := extractLsb'_eq_append_iff b 11 0#52 (BitVec.ofBool div2)
  rw [hupper, hreserved, extractLsb'_eq_ofBool_iff, extractLsb'_eq_ofBool_iff, and_assoc, and_assoc] at hsplit
  exact hsplit

@[simp] theorem eq_operandB_setClocks_iff (b : Operand) (bscd : BitVec 8) (clkdiv : BitVec 12) :
    b = (Instr.setClocks bscd clkdiv).operandB ↔
      b.extractLsb' 20 44 = 0 ∧ b.extractLsb' 8 12 = clkdiv ∧ b.extractLsb' 0 8 = bscd := by
  have hsplit := eq_append_iff b (0#44 ++ clkdiv) bscd
  rw [extractLsb'_eq_append_iff b 8 0#44 clkdiv, and_assoc] at hsplit
  exact hsplit

@[simp] theorem eq_operandB_setPower_iff (b : Operand) (power : BitVec 2) :
    b = (Instr.setPower power).operandB ↔ b.extractLsb' 2 62 = 0 ∧ b.extractLsb' 0 2 = power :=
  eq_append_iff b 0#62 power

@[simp] theorem eq_operandB_setPhase_iff (b : Operand) (phase : BitVec 12) :
    b = (Instr.setPhase phase).operandB ↔ b.extractLsb' 12 52 = 0 ∧ b.extractLsb' 0 12 = phase :=
  eq_append_iff b 0#52 phase

@[simp] theorem eq_operandB_getReg_iff (b : Operand) (i : BitVec 3) :
    b = (Instr.getReg i).operandB ↔ b.extractLsb' 3 61 = 0 ∧ b.extractLsb' 0 3 = i :=
  eq_append_iff b 0#61 i

@[simp] theorem eq_operandB_getPlan_iff (b : Operand) (sel : BitVec 4) :
    b = (Instr.getPlan sel).operandB ↔ b.extractLsb' 4 60 = 0 ∧ b.extractLsb' 0 4 = sel :=
  eq_append_iff b 0#60 sel

/-! ## What the decoder accepts -/

/-- The word's fields are the opcode and the operands of `i` (R107, R108, R110). -/
def FieldsOf (i : Instr) (w : CmdWord) : Prop :=
  opField w = i.opcode ∧ aField w = i.operandA ∧ bField w = i.operandB

/-- Only the command word of `i` has the fields of `i`. -/
theorem fieldsOf_iff_encode_eq (i : Instr) (w : CmdWord) : FieldsOf i w ↔ encode i = w := by
  constructor
  · rintro ⟨hop, ha, hb⟩
    rw [encode, ← hop, ← ha, ← hb]
    exact (eq_append_fields w).symm
  · rintro rfl
    exact fields_encode i

theorem accept_eq_ok_iff (op : BitVec 8) (reservedZero : Bool) (j i : Instr) :
    accept op reservedZero j = .ok i ↔ reservedZero = true ∧ j.wellFormed = true ∧ j = i := by
  unfold accept
  cases reservedZero <;> cases j.wellFormed <;> simp

/-- An accepted word has the fields of its operation: each arm of the opcode map reads every operand bit
or checks that it is zero. -/
theorem fieldsOf_of_decode {w : CmdWord} {i : Instr} (h : decode w = .ok i) :
    FieldsOf i w ∧ i.wellFormed = true := by
  unfold decode at h
  dsimp only at h
  split at h
  case h_25 => cases h
  all_goals
    rename_i hop
    obtain ⟨hzero, hwf, rfl⟩ := (accept_eq_ok_iff _ _ _ _).mp h
    refine ⟨⟨BitVec.eq_of_toNat_eq hop, ?_⟩, hwf⟩
  -- the arms whose `B` holds an operand below reserved bits
  case h_5 | h_6 | h_7 | h_8 | h_23 | h_24 => simpa [Instr.operandA] using hzero
  -- `SET_FREQ_STEP`, which has no reserved bits
  case h_4 => exact ⟨rfl, rfl⟩
  all_goals simpa [Instr.operandA, Instr.operandB] using hzero

/-- A word with the fields of a well-formed operation decodes to it: the arm of its opcode finds the
reserved bits zero and reads the operands back. -/
theorem decode_of_fieldsOf {w : CmdWord} {i : Instr} (h : FieldsOf i w) (hwf : i.wellFormed = true) :
    decode w = .ok i := by
  obtain ⟨hop, ha, hb⟩ := h
  unfold decode
  dsimp only
  rw [hop]
  cases i
  case setRef =>
    obtain ⟨hzero, rfl, rfl, rfl⟩ := (eq_operandB_setRef_iff _ _ _ _ _).mp hb
    simp [Instr.opcode, Instr.operandA, Instr.wellFormed, accept_eq_ok_iff, ha, hzero]
  case setClocks | setPower | setPhase | getReg | getPlan =>
    simp only [eq_operandB_setClocks_iff, eq_operandB_setPower_iff,
      eq_operandB_setPhase_iff, eq_operandB_getReg_iff, eq_operandB_getPlan_iff] at hb
    simp [Instr.opcode, Instr.operandA, accept_eq_ok_iff, ha, hb, hwf]
  all_goals simp [Instr.opcode, Instr.operandA, Instr.operandB, accept_eq_ok_iff, ha, hb, hwf]

/-- Settles O1: the command word of `i` has the fields of `i`. -/
theorem decodeOfEncode : Obligations.DecodeOfEncode := fun i hwf =>
  decode_of_fieldsOf ((fieldsOf_iff_encode_eq i _).mpr rfl) hwf

/-- Settles O2: an accepted word has the fields of its operation, which make up the whole word. -/
theorem encodeOfDecode : Obligations.EncodeOfDecode := by
  intro w i h
  obtain ⟨hfields, hwf⟩ := fieldsOf_of_decode h
  exact ⟨(fieldsOf_iff_encode_eq i w).mp hfields, hwf⟩

/-! ## The reserved masks (R108, R111) -/

/-- The reserved upper bits of an operand are zero exactly where their mask finds none. -/
theorem and_highMask_eq_zero_iff (n m : Nat) (b : BitVec (n + m)) :
    b &&& (BitVec.allOnes (n + m) <<< n) = 0 ↔ b.extractLsb' n m = 0 := by
  constructor
  · intro h
    apply BitVec.eq_of_getLsbD_eq
    intro k hk
    have hbit := congrArg (·.getLsbD (n + k)) h
    simpa [hk] using hbit
  · intro h
    apply BitVec.eq_of_getLsbD_eq
    intro k hk
    by_cases hlow : k < n
    · simp [hlow]
    · have hbit := congrArg (·.getLsbD (k - n)) h
      have hsub : k - n < m := by omega
      have hadd : n + (k - n) = k := by omega
      have hbit' : b.getLsbD k = false := by simpa [hsub, hadd] using hbit
      simp [hbit']

/-- Where the reserved upper bits are zero, the lower bits are the whole operand. -/
theorem toNat_extractLsb'_of_high_zero {m n : Nat} {b : BitVec (m + n)} (h : b.extractLsb' n m = 0) :
    (b.extractLsb' 0 n).toNat = b.toNat := by
  have hb : b = 0#m ++ b.extractLsb' 0 n := (eq_append_iff b _ _).mpr ⟨h, rfl⟩
  conv_rhs => rw [hb]
  simp

@[simp] theorem and_mask2_eq_zero_iff (b : Operand) :
    b &&& 0xFFFFFFFFFFFFFFFC#64 = 0#64 ↔ b.extractLsb' 2 62 = 0#62 :=
  and_highMask_eq_zero_iff 2 62 b

@[simp] theorem and_mask3_eq_zero_iff (b : Operand) :
    b &&& 0xFFFFFFFFFFFFFFF8#64 = 0#64 ↔ b.extractLsb' 3 61 = 0#61 :=
  and_highMask_eq_zero_iff 3 61 b

@[simp] theorem and_mask4_eq_zero_iff (b : Operand) :
    b &&& 0xFFFFFFFFFFFFFFF0#64 = 0#64 ↔ b.extractLsb' 4 60 = 0#60 :=
  and_highMask_eq_zero_iff 4 60 b

@[simp] theorem and_mask12_eq_zero_iff (b : Operand) :
    b &&& 0xFFFFFFFFFFFFF000#64 = 0#64 ↔ b.extractLsb' 12 52 = 0#52 :=
  and_highMask_eq_zero_iff 12 52 b

@[simp] theorem and_mask20_eq_zero_iff (b : Operand) :
    b &&& 0xFFFFFFFFFFF00000#64 = 0#64 ↔ b.extractLsb' 20 44 = 0#44 :=
  and_highMask_eq_zero_iff 20 44 b

@[simp] theorem and_mask64 (b : Operand) : b &&& 0xFFFFFFFFFFFFFFFF#64 = b := BitVec.and_allOnes

theorem eq_ofNat_of_toNat_eq {n k : Nat} {x : BitVec n} (h : x.toNat = k) : x = BitVec.ofNat n k := by
  rw [← h, BitVec.ofNat_toNat, BitVec.setWidth_eq]

/-- A command is accepted exactly where R111 does not refuse it: the arm of each opcode checks the bits of
the masks, and the selectors of the queries. -/
theorem exists_decode_iff (w : CmdWord) :
    (∃ i, decode w = .ok i) ↔ malformed (opField w) (aField w) (bField w) = false := by
  unfold decode
  dsimp only
  split
  case h_25 =>
    have hunknown : reservedMasks.lookup (opField w) = none := by
      simp only [reservedMasks, List.lookup_eq_none_iff, List.forall_mem_cons, List.not_mem_nil,
        false_imp_iff, implies_true, and_true, bne_iff_ne, ne_eq, BitVec.toNat_eq]
      and_intros
      all_goals assumption
    simp [malformed, hunknown]
  all_goals
    rename_i hop
    rw [eq_ofNat_of_toNat_eq hop]
    simp only [accept_eq_ok_iff, exists_and_left, exists_eq', and_true]
  case h_23 =>
    simp +contextual [malformed, reservedMasks, List.lookup, Instr.wellFormed, regSelectorLegal,
      toNat_extractLsb'_of_high_zero (m := 61), -BitVec.extractLsb'_toNat]
  case h_24 =>
    simp +contextual [malformed, reservedMasks, List.lookup, Instr.wellFormed, planSelectorLegal,
      toNat_extractLsb'_of_high_zero (m := 60), -BitVec.extractLsb'_toNat]
  all_goals simp [malformed, reservedMasks, List.lookup, Instr.wellFormed]

/-- A presented word that does not decode is refused (R111, R250). -/
theorem step_of_decode_error {s : State} {w : CmdWord} {b : BadCommand} {rest : List EnvEvent}
    (hq : s.env.events = .command w :: rest) (hd : decode w = .error b) :
    step s = .next ((popped s rest).failWith .badCommand) := by
  simp only [step, nextEvent_of_events_cons hq, hd]

/-- Settles O3: `exists_decode_iff` says which words decode; one that does not is refused. -/
theorem malformedCommandsAreRefused : Obligations.MalformedCommandsAreRefused := by
  intro s w rest hq
  refine ⟨fun hbad => ?refused, fun hgood => ?accepted⟩
  case refused =>
    cases hd : decode w with
    | ok i =>
      have hgood := (exists_decode_iff w).mp ⟨i, hd⟩
      exact absurd (hbad.symm.trans hgood) (by decide)
    | error b => exact step_of_decode_error hq hd
  case accepted =>
    obtain ⟨i, hd⟩ := (exists_decode_iff w).mpr hgood
    exact ⟨i, (fieldsOf_of_decode hd).2, hd⟩

/-! ## The command words of the test vectors, and the response word (R112) -/

/-- Settles O8: each word is evaluated. -/
theorem decodeWordsFromSpec : Obligations.DecodeWordsFromSpec :=
  ⟨rfl, rfl, rfl, rfl, rfl, rfl, rfl, rfl⟩

/-- Every status code but that of `OK` is a failure's, 1 to 9 (R290). -/
theorem failure_code_bounds (e : Failure) : 1 ≤ e.code.toNat ∧ e.code.toNat ≤ 9 := by
  cases e <;> decide

theorem status_code_eq_zero_iff (st : Status) : st.code = 0 ↔ st = .ok := by
  cases st with
  | ok => simp [Status.code]
  | failed e =>
    have hpos := (failure_code_bounds e).1
    refine iff_of_false (fun hzero : e.code = 0 => ?_) (by simp)
    rw [hzero] at hpos
    exact absurd hpos (by decide)

theorem status_code_le_nine (st : Status) : st.code.toNat ≤ 9 := by
  cases st with
  | ok => exact Nat.zero_le 9
  | failed e => exact (failure_code_bounds e).2

/-- The response word splits into its three parts (R112). -/
theorem response_word_fields (r : Response) :
    r.word.extractLsb' 65 8 = r.status.code ∧ r.word.getLsbD 64 = r.mismatch ∧
      r.word.extractLsb' 0 64 = r.data := by
  obtain ⟨hupper, hdata⟩ := (eq_append_iff r.word (r.status.code ++ BitVec.ofBool r.mismatch) r.data).mp rfl
  obtain ⟨hstatus, hmismatch⟩ := (extractLsb'_eq_append_iff r.word 64 _ _).mp hupper
  exact ⟨hstatus, (extractLsb'_eq_ofBool_iff _ _ _).mp hmismatch, hdata⟩

/-- Settles O9: the codes by evaluation, the layout by splitting the word. -/
theorem responseWordLayout : Obligations.ResponseWordLayout := by
  refine ⟨⟨rfl, rfl, rfl, rfl, rfl, rfl, rfl, rfl, rfl⟩, rfl, fun _ => rfl, fun r => ?_⟩
  obtain ⟨hstatus, hmismatch, hdata⟩ := response_word_fields r
  exact ⟨hstatus, hmismatch, hdata, status_code_eq_zero_iff r.status, status_code_le_nine r.status⟩

end Sys2Proof.Machine
end

section
/-! `Pack` field by field and bit by bit (30_encoding.md R100 to R106; 40_bitfield.md R142, R143). -/

namespace Sys2Proof.Machine

/-! ## `SetField` read back -/

/-- A field reads back what was set, as far as it fits (R142, R143). -/
theorem getField_setField_same (w : Word) (start length value : Nat) (h : start + length ≤ 32) :
    getField (setField w start length value h) start length h = value % 2 ^ length := by
  refine Nat.eq_of_testBit_eq fun k => ?_
  rw [getField_testBit, setField_getLsbD, Nat.testBit_mod_two_pow]
  by_cases hk : k < length <;> simp [hk]

/-- A field reads what it did before another field was set (R142, R143). -/
theorem getField_setField_of_disjoint (w : Word) {start length start' length' : Nat} (value : Nat)
    (h : start + length ≤ 32) (h' : start' + length' ≤ 32)
    (hdisj : start + length ≤ start' ∨ start' + length' ≤ start) :
    getField (setField w start length value h) start' length' h' = getField w start' length' h' := by
  refine Nat.eq_of_testBit_eq fun k => ?_
  rw [getField_testBit, getField_testBit, setField_getLsbD]
  by_cases hk : k < length'
  · rw [if_neg (by omega)]
  · simp [hk]

/-- A bit outside the field is kept (R142). -/
theorem setField_getLsbD_of_outside (w : Word) {start length k : Nat} (value : Nat)
    (h : start + length ≤ 32) (hout : ¬(start ≤ k ∧ k < start + length)) :
    (setField w start length value h).getLsbD k = w.getLsbD k := by
  rw [setField_getLsbD, if_neg hout]

/-! ## The six words -/

theorem zFlag_mod_two (p : Plan) : zFlag p % 2 ^ 1 = if p.frac = 0 then 1 else 0 := by
  unfold zFlag
  split <;> rfl

/-- Register 0 after `Pack` (R101). -/
theorem packWord0_fields (p : Plan) (w : Word) (hfrac : p.frac < 4096) (hnint : p.nint < 65536) :
    getField (packWord0 p w) 0 3 = 0 ∧ getField (packWord0 p w) 3 12 = p.frac ∧
      getField (packWord0 p w) 15 16 = p.nint := by
  simp [packWord0, getField_setField_same, getField_setField_of_disjoint, hfrac, hnint]

/-- Register 1 after `Pack` (R102). -/
theorem packWord1_fields (c : Cfg) (p : Plan) (w : Word) (hmod : p.mod < 4096) :
    getField (packWord1 c p w) 0 3 = 1 ∧ getField (packWord1 c p w) 3 12 = p.mod ∧
      getField (packWord1 c p w) 15 12 = c.phase.toNat ∧
      getField (packWord1 c p w) 27 1 = p.presc.toNat := by
  have hphase : c.phase.toNat < 4096 := c.phase.isLt
  simp [packWord1, getField_setField_same, getField_setField_of_disjoint, hmod, hphase, Bool.toNat_le]

/-- Register 2 after `Pack` (R103). -/
theorem packWord2_fields (c : Cfg) (p : Plan) (w : Word) :
    let z := if p.frac = 0 then 1 else 0
    getField (packWord2 c p w) 0 3 = 2 ∧ getField (packWord2 c p w) 6 1 = 1 ∧
      getField (packWord2 c p w) 7 1 = z ∧ getField (packWord2 c p w) 8 1 = z ∧
      getField (packWord2 c p w) 9 4 = 7 ∧ getField (packWord2 c p w) 14 10 = c.rcount.toNat ∧
      getField (packWord2 c p w) 24 1 = c.div2.toNat ∧
      getField (packWord2 c p w) 25 1 = c.doubler.toNat ∧ getField (packWord2 c p w) 26 3 = 6 := by
  have hrcount : c.rcount.toNat < 1024 := c.rcount.isLt
  simp [packWord2, getField_setField_same, getField_setField_of_disjoint, ← zFlag_mod_two, hrcount,
    Bool.toNat_le, Config.cpCode, Config.muxSel]

/-- Register 3 after `Pack` (R104). -/
theorem packWord3_fields (c : Cfg) (p : Plan) (w : Word) :
    let z := if p.frac = 0 then 1 else 0
    getField (packWord3 c p w) 0 3 = 3 ∧ getField (packWord3 c p w) 3 12 = c.clkdiv.toNat ∧
      getField (packWord3 c p w) 21 1 = z ∧ getField (packWord3 c p w) 22 1 = z ∧
      getField (packWord3 c p w) 23 1 = 1 := by
  have hclkdiv : c.clkdiv.toNat < 4096 := c.clkdiv.isLt
  simp [packWord3, getField_setField_same, getField_setField_of_disjoint, ← zFlag_mod_two, hclkdiv]

/-- Register 4 after `Pack` (R105). -/
theorem packWord4_fields (c : Cfg) (p : Plan) (w : Word) (hdiv : p.rfdivsel < 8) :
    getField (packWord4 c p w) 0 3 = 4 ∧ getField (packWord4 c p w) 3 2 = c.power.toNat ∧
      getField (packWord4 c p w) 5 1 = 1 ∧ getField (packWord4 c p w) 11 1 = 0 ∧
      getField (packWord4 c p w) 12 8 = c.bscd.toNat ∧ getField (packWord4 c p w) 20 3 = p.rfdivsel ∧
      getField (packWord4 c p w) 23 1 = 1 := by
  have hpower : c.power.toNat < 4 := c.power.isLt
  have hbscd : c.bscd.toNat < 256 := c.bscd.isLt
  simp [packWord4, getField_setField_same, getField_setField_of_disjoint, hpower, hbscd, hdiv]

/-- Register 5 after `Pack` (R106), which from reset on is one constant. -/
theorem packWord5_fields (w : Word) :
    getField (packWord5 w) 0 3 = 5 ∧ getField (packWord5 w) 19 2 = 3 ∧ getField (packWord5 w) 22 2 = 1 ∧
      (w = 0 ∨ w = 0x00580005 → packWord5 w = 0x00580005) := by
  refine ⟨?_, ?_, ?_, ?constant⟩
  case constant => rintro (rfl | rfl) <;> decide
  all_goals
    simp [packWord5, getField_setField_same, getField_setField_of_disjoint, Config.r5Reserved,
      Config.ldPinMode]

/-- A bit that `Pack` does not write lies outside every span of its register. -/
theorem packsBit_eq_false_iff (i : RegIdx) (k : Nat) :
    Config.packsBit i k = false ↔ ∀ sp ∈ Config.packedSpans i, k < sp.1 ∨ sp.1 + sp.2 ≤ k := by
  rw [Config.packsBit, List.any_eq_false]
  refine forall₂_congr fun sp _ => ?_
  rw [Bool.and_eq_true, decide_eq_true_iff, decide_eq_true_iff]
  omega

/-- `Pack` keeps every bit that no table of R101 to R106 names. -/
theorem packRegs_getLsbD_of_free (c : Cfg) (p : Plan) (r : Vector Word 6) (i : RegIdx) (k : Nat)
    (hfree : Config.packsBit i k = false) : (packRegs c p r)[i].getLsbD k = r[i].getLsbD k := by
  rw [packsBit_eq_false_iff] at hfree
  match i, hfree with
  | 0, hfree | 1, hfree | 2, hfree | 3, hfree | 4, hfree | 5, hfree =>
    simp only [Config.packedSpans, List.forall_mem_cons] at hfree
    simp (disch := omega) [packRegs, packWord0, packWord1, packWord2, packWord3, packWord4, packWord5,
      setField_getLsbD_of_outside]

/-- Settles O22: word by word, each field by what was set last in it. -/
theorem packLaysOutTheSixWords : Obligations.PackLaysOutTheSixWords := by
  intro c p r hfrac hmod hnint hdiv
  exact ⟨packWord0_fields p r[0] (by omega) (by omega), packWord1_fields c p r[1] (by omega),
    packWord2_fields c p r[2], packWord3_fields c p r[3], packWord4_fields c p r[4] (by omega),
    packWord5_fields r[5], packRegs_getLsbD_of_free c p r⟩

end Sys2Proof.Machine
end

section
/-! The lock-assist bit, which no operation clears (30_encoding.md R117, 70_reset_and_hazards.md R333). -/

namespace Sys2Proof.Machine

/-- The lock-assist bit is set in the image of its register. -/
def AssistBitSet (par : Params) (r : Vector Word 6) : Prop :=
  r[par.lockAssistReg].getLsbD par.lockAssistBit.val = true

/-- `Pack` does not write the lock-assist bit (R117). -/
theorem assistBitSet_packRegs {par : Params} {r : Vector Word 6} (h : AssistBitSet par r) (c : Cfg)
    (p : Plan) : AssistBitSet par (packRegs c p r) :=
  (packRegs_getLsbD_of_free c p r _ _ (lockAssist_free par).2).trans h

/-- A new image keeps the bit if it has it where it is the lock-assist register's. -/
theorem AssistBitSet.set {par : Params} {r : Vector Word 6} (h : AssistBitSet par r) (i : RegIdx) {v : Word}
    (hv : i = par.lockAssistReg → v.getLsbD par.lockAssistBit.val = true) :
    AssistBitSet par (r.set i.val v i.isLt) := by
  rw [AssistBitSet, Fin.getElem_fin, Vector.getElem_set]
  split
  case isTrue hi => exact hv (Fin.ext hi)
  case isFalse => exact h

/-- A lock-assist write sets the bit (R230). -/
theorem assistWord_getLsbD (s : State) : (assistWord s).getLsbD s.par.lockAssistBit.val = true := by
  rw [assistWord, setField_getLsbD, if_pos (by omega), Nat.sub_self]
  rfl

/-- `ENABLE_OUT` and `DISABLE_OUT` write two fields of register 4 that `Pack` writes too (R259, R260). -/
theorem outputWord_getLsbD_of_free (enable : Nat) (s : State) {k : Nat}
    (hfree : Config.packsBit 4 k = false) : (outputWord enable s).getLsbD k = (s.readReg 4).getLsbD k := by
  have hout := (packsBit_eq_false_iff 4 k).mp hfree
  have haddr := hout (0, 3) (by decide)
  have henable := hout (5, 1) (by decide)
  rw [outputWord, setField_getLsbD_of_outside _ _ _ (by omega), setField_getLsbD_of_outside _ _ _ (by omega)]

theorem assistBitSet_keyOutput {s : State} (h : AssistBitSet s.par s.regs) (enable : Nat) :
    AssistBitSet s.par (keyOutput enable s).regs := by
  rw [keyOutput_eq]
  refine h.set 4 fun hreg => ?_
  have hfree := (lockAssist_free s.par).2
  rw [← hreg] at hfree
  rw [outputWord_getLsbD_of_free enable s hfree, hreg]
  exact h

theorem assistBitSet_assistLock {s : State} (h : AssistBitSet s.par s.regs) :
    AssistBitSet s.par (assistLock s).regs := by
  rw [assistLock_eq]
  exact h.set _ fun _ => assistWord_getLsbD s

/-- `Retune` leaves the images or packs them (R197). -/
theorem RetuneEnd.assistBitSet {f : Int} {s t : State} {r : Except Failure Bool} (h : RetuneEnd f s r t)
    (hs : AssistBitSet s.par s.regs) : AssistBitSet s.par t.regs := by
  cases h with
  | unplanned _ => exact hs
  | lost _ _ _ _ => exact assistBitSet_packRegs hs _ _
  | tuned _ _ => exact assistBitSet_packRegs hs _ _

theorem SetFreqEnd.assistBitSet {f : Int} {mode : StepMode} {step : Operand} {s t : State}
    (h : SetFreqEnd f s (withMode s mode step) t) (hs : AssistBitSet s.par s.regs) :
    AssistBitSet s.par t.regs := by
  cases h with
  | refused _ => exact hs
  | glided _ _ => exact hs
  | @retuned r t _ _ hr =>
    rw [(tuneEnd_device f r t).1]
    exact hr.assistBitSet hs

theorem TickEnd.assistBitSet {dt : Operand} {s t : State} (h : TickEnd dt s t)
    (hs : AssistBitSet s.par s.regs) : AssistBitSet s.par t.regs := by
  cases h with
  | idle _ => exact hs
  | @retuned f m t r hm _ hr =>
    obtain ⟨draws, drawn, rfl⟩ := hm
    rw [(finishRetune_device r t.clearLocked).1]
    exact hr.assistBitSet hs
  | assisted hm =>
    obtain ⟨draws, drawn, rfl⟩ := hm
    exact assistBitSet_assistLock hs
  | settled hm =>
    obtain ⟨draws, drawn, rfl⟩ := hm
    exact hs

/-- An operation whose row of R40 has no images leaves them. -/
theorem WritesOnly.regs_eq {i : Instr} {s t : State} (h : WritesOnly i s t) (hi : canWriteRegs i = false) :
    t.regs = s.regs := by
  cases i
  case tick | setFreq | setFreqGcd | setFreqStep | enableOut | disableOut | lockAssist =>
    exact nomatch hi
  all_goals exact congrArg (·.regs) h

/-- Settles O59: a retune packs around the bit, the output operations write beside it, a lock-assist write
sets it, and no other row of R40 has the images. -/
theorem lockAssistBitStaysSet : Obligations.LockAssistBitStaysSet := by
  intro i s t h hs
  have hw : WritesOnly i s t := exec_writesOnly h
  rw [hw.par_eq]
  change AssistBitSet s.par s.regs at hs
  change AssistBitSet s.par t.regs
  cases i
  case tick dt =>
    obtain rfl := Host.Outcome.next.inj h
    exact (tick_end dt s).assistBitSet hs
  case setFreq | setFreqGcd | setFreqStep =>
    obtain rfl := Host.Outcome.next.inj h
    exact (setFreqCommon_end _ _ _ s).assistBitSet hs
  case enableOut | disableOut =>
    obtain rfl := Host.Outcome.next.inj h
    exact assistBitSet_keyOutput hs _
  case lockAssist =>
    obtain rfl := Host.Outcome.next.inj h
    exact assistBitSet_assistLock hs
  all_goals rwa [hw.regs_eq rfl]

end Sys2Proof.Machine
end

section
/-! What the response of an operation carries (30_encoding.md R112, 60_exceptions.md R292). -/

namespace Sys2Proof.Machine

/-- The three forms of a response: a status alone, the answer of a query, and the end of a retune whose
commit is complete (R112, R292). -/
inductive ResponseDue (i : Instr) (s t : State) : Prop
  | bare {st : Status} (hrsp : t.rsp = { status := st, mismatch := false, data := 0 })
  | answer {d : Operand} (hquery : isQuery i = true)
      (hrsp : t.rsp = { status := .ok, mismatch := false, data := d })
  | tuned {p : Plan} (hretune : canRetune i = true) (hcommit : CommitsSix s t) (hplan : t.plan = .ok p)
      (hrsp : t.rsp = { status := .ok, mismatch := p.mismatch, data := 0 })

/-- A `Retune` that answers a mismatch bit has committed the plan with this bit (R197). -/
theorem RetuneEnd.commitsSix_of_ok {f : Int} {s t : State} {m : Bool} (h : RetuneEnd f s (.ok m) t) :
    CommitsSix s t ∧ ∃ p, t.plan = .ok p ∧ p.mismatch = m := by
  cases h with
  | @tuned p hplan hgood =>
    have hf : LegalFreq s.par f := (retunePlan_ok hplan).1
    exact ⟨⟨hgood, rfl, f.toNat, p, rfl, by rwa [toNat_of_legalFreq hf], rfl⟩, p, rfl, rfl⟩

theorem SetFreqEnd.responseDue {f : Int} {mode : StepMode} {step : Operand} {s t : State} {i : Instr}
    (hi : canRetune i = true) (h : SetFreqEnd f s (withMode s mode step) t) : ResponseDue i s t := by
  cases h with
  | refused _ => exact .bare rfl
  | glided _ _ => exact .bare rfl
  | @retuned r t _ _ hr =>
    cases r with
    | error e => exact .bare rfl
    | ok m =>
      obtain ⟨hcommit, p, hplan, rfl⟩ := hr.commitsSix_of_ok
      obtain ⟨hregs, hlog, hcom, hplan'⟩ := tuneEnd_device f (.ok p.mismatch) t
      exact .tuned hi (hcommit.congr (answer_congr rfl) rfl rfl hregs hlog hcom hplan')
        (hplan'.trans hplan) rfl

theorem TickEnd.responseDue {dt : Operand} {s t : State} (h : TickEnd dt s t) :
    ResponseDue (.tick dt) s t := by
  cases h with
  | idle _ => exact .bare rfl
  | @retuned f m t r hm _ hr =>
    obtain ⟨draws, drawn, rfl⟩ := hm
    cases r with
    | error e => exact .bare rfl
    | ok b =>
      obtain ⟨hcommit, p, hplan, rfl⟩ := hr.commitsSix_of_ok
      obtain ⟨hregs, hlog, hcom, hplan'⟩ := finishRetune_device (.ok p.mismatch) t.clearLocked
      exact .tuned rfl (hcommit.congr (answer_congr' rfl rfl) rfl rfl hregs hlog hcom hplan')
        (hplan'.trans hplan) rfl
  | assisted _ =>
    rw [assistLock_eq]
    exact .bare rfl
  | settled _ => exact .bare rfl

/-- The queries answer data or fail (R273, R274). -/
theorem execGetReg_responseDue {r : BitVec 3} {s t : State} (h : execGetReg r s = .next t) :
    ResponseDue (.getReg r) s t := by
  obtain rfl := Host.Outcome.next.inj h
  split
  · exact .answer rfl rfl
  · exact .bare rfl

theorem execGetPlan_responseDue {sel : BitVec 4} {s t : State} (h : execGetPlan sel s = .next t) :
    ResponseDue (.getPlan sel) s t := by
  obtain rfl := Host.Outcome.next.inj h
  split
  case isTrue => exact .bare rfl
  case isFalse =>
    split
    case h_1 | h_2 => exact .bare rfl
    case h_3 =>
      split
      · exact .answer rfl rfl
      · exact .bare rfl

theorem waveOrNone_rsp (law : WaveLaw) (a : Operand) (s : State) : (waveOrNone law a s).rsp = plainOk := by
  unfold waveOrNone
  split
  · rw [waveNone_eq]
  · rfl

/-- Every operation ends in one of the three forms. -/
theorem exec_responseDue {i : Instr} {s t : State} (h : exec i s = .next t) : ResponseDue i s t := by
  cases i with
  | tick dt =>
    obtain rfl := Host.Outcome.next.inj h
    exact (tick_end dt s).responseDue
  | setFreq _ | setFreqGcd _ | setFreqStep _ _ =>
    obtain rfl := Host.Outcome.next.inj h
    exact (setFreqCommon_end _ _ _ s).responseDue rfl
  | setRef ref rcount doubler div2 =>
    rcases execSetRef_cases h with ⟨e, rfl⟩ | ⟨-, rfl⟩ <;> exact .bare rfl
  | enableOut | disableOut =>
    obtain rfl := Host.Outcome.next.inj h
    rw [keyOutput_eq]
    exact .bare rfl
  | lockAssist =>
    obtain rfl := Host.Outcome.next.inj h
    rw [assistLock_eq]
    exact .bare rfl
  | glideLinear _ | glideExp _ | glideConst _ =>
    obtain rfl := Host.Outcome.next.inj h
    split <;> exact .bare rfl
  | waveOff =>
    obtain rfl := Host.Outcome.next.inj h
    rw [waveNone_eq]
    exact .bare rfl
  | waveRamp _ | waveSine _ | waveTri _ | waveRandom _ =>
    obtain rfl := Host.Outcome.next.inj h
    exact .bare (waveOrNone_rsp _ _ s)
  | getReg r => exact execGetReg_responseDue h
  | getPlan sel => exact execGetPlan_responseDue h
  | setClocks _ _ | setPower _ | setPhase _ | glideOff | setDither _ | setPhaseStep _ =>
    obtain rfl := Host.Outcome.next.inj h
    exact .bare rfl

/-- Settles O57: only the end of a retune carries the mismatch bit, only a query's answer carries data,
and neither is a failure. -/
theorem responseCarriesOnlyWhatIsDue : Obligations.ResponseCarriesOnlyWhatIsDue := by
  intro i s t h
  cases exec_responseDue h with
  | bare hrsp =>
    rw [hrsp]
    refine ⟨?status, fun hm => (nomatch hm), fun hd => absurd rfl hd⟩
    rintro e ⟨⟩
    rfl
  | answer hquery hrsp =>
    rw [hrsp]
    exact ⟨fun e he => (nomatch he), fun hm => (nomatch hm), fun _ => ⟨hquery, rfl⟩⟩
  | @tuned p hretune hcommit hplan hrsp =>
    rw [hrsp]
    refine ⟨fun e he => (nomatch he), fun hm => ?mismatch, fun hd => absurd rfl hd⟩
    obtain ⟨hgood, hlog, f, -, hcom, -⟩ := hcommit
    exact ⟨hretune, rfl, Option.isSome_of_eq_some hcom, hgood, hlog, p, hplan, hm⟩

end Sys2Proof.Machine
end

section
/-! `SetField` after `SetField`, and the range of `GetField` (40_bitfield.md R142, R143). -/

namespace Sys2Proof.Machine

/-- The later of two writes of one field stands alone (R142). -/
theorem setField_setField_same (w : Word) (start length v v' : Nat) (h : start + length ≤ 32) :
    setField (setField w start length v h) start length v' h = setField w start length v' h := by
  refine BitVec.eq_of_getLsbD_eq fun k _ => ?_
  by_cases hk : start ≤ k ∧ k < start + length
  · simp only [setField_getLsbD, if_pos hk]
  · simp only [setField_getLsbD_of_outside _ _ h hk]

/-- Writes of disjoint fields commute: each bit lies in at most one of the two spans (R142). -/
theorem setField_comm_of_disjoint (w : Word) {start length start' length' : Nat} (v v' : Nat)
    (h : start + length ≤ 32) (h' : start' + length' ≤ 32)
    (hdisj : start + length ≤ start' ∨ start' + length' ≤ start) :
    setField (setField w start length v h) start' length' v' h'
      = setField (setField w start' length' v' h') start length v h := by
  refine BitVec.eq_of_getLsbD_eq fun k _ => ?_
  by_cases hk : start ≤ k ∧ k < start + length
  · have hk' : ¬(start' ≤ k ∧ k < start' + length') := by omega
    simp only [setField_getLsbD_of_outside _ _ h' hk', setField_getLsbD _ start, if_pos hk]
  · simp only [setField_getLsbD_of_outside _ _ h hk, setField_getLsbD _ start']

/-- A field is in the range of its length (R143). -/
theorem getField_lt (w : Word) (start length : Nat) (h : start + length ≤ 32) :
    getField w start length h < 2 ^ length :=
  Nat.mod_lt _ (Nat.two_pow_pos length)

/-- Settles O10: one lemma for each property; setting twice is a case of `setField_setField_same`, the
later value being the same one. -/
theorem setFieldReadsBackAndKeepsRest : Obligations.SetFieldReadsBackAndKeepsRest := by
  intro w start length value h
  refine ⟨getField_setField_same w start length value h, ?outside,
    setField_setField_same w start length value value h, ?disjoint, getField_lt w start length h⟩
  case outside =>
    exact fun k hk => setField_getLsbD_of_outside w value h hk
  case disjoint =>
    exact fun start' length' value' h' hdisj => setField_comm_of_disjoint w value value' h h' hdisj

end Sys2Proof.Machine
end

section
/-! The output divider (41_divider_engine.md R152): where the loop of step 2 stops. -/

namespace Sys2Proof.Machine

/-- With enough doublings left the loop of step 2 stops above a ratio of less than 64 (R152). -/
theorem lt_dividerLoop {ratio : Nat} (hratio : ratio < 64) (fuel : Nat) {div : Nat} (rfdivsel : Nat)
    (hfuel : ratio < div * 2 ^ fuel) : ratio < (dividerLoop ratio fuel div rfdivsel).1 := by
  induction fuel generalizing div rfdivsel with
  | zero => simpa [dividerLoop] using hfuel
  | succ fuel ih =>
    rw [dividerLoop_succ]
    split
    case isTrue => exact ih (rfdivsel + 1) (by rw [pow_succ] at hfuel; linarith)
    case isFalse hstop => dsimp only; omega

/-- The loop of step 2 doubles only at or below the ratio, so half of what it doubled to is no more than
the ratio (R152). -/
theorem half_dividerLoop_le (ratio fuel div rfdivsel : Nat)
    (hne : (dividerLoop ratio fuel div rfdivsel).1 ≠ div) :
    (dividerLoop ratio fuel div rfdivsel).1 / 2 ≤ ratio := by
  induction fuel generalizing div rfdivsel with
  | zero => exact absurd rfl hne
  | succ fuel ih =>
    rw [dividerLoop_succ] at hne ⊢
    split at hne
    case isFalse => exact absurd rfl hne
    case isTrue hdouble =>
      rw [if_pos hdouble]
      by_cases hlast : (dividerLoop ratio fuel (2 * div) (rfdivsel + 1)).1 = 2 * div
      · omega
      · exact ih _ _ hlast

/-- The output divider of a legal frequency exceeds the ratio (R152). -/
theorem lt_outputDivider {f : Nat} (hf : Config.fOutMin ≤ f) : 2200000000 / f < (outputDivider f).1 := by
  simp only [Config.fOutMin] at hf
  have hratio : 2200000000 / f < 64 := Nat.div_lt_of_lt_mul (by omega)
  exact lt_dividerLoop hratio 7 0 (by omega)

/-- An output divider other than 1 is the least power of two above the ratio (R152). -/
theorem half_outputDivider_le {f : Nat} (hne : (outputDivider f).1 ≠ 1) :
    (outputDivider f).1 / 2 ≤ 2200000000 / f :=
  half_dividerLoop_le _ 7 1 0 hne

/-- The output divider is 1 exactly above the reference of the search (R152). -/
theorem outputDivider_eq_one_iff {f : Nat} (hf : Config.fOutMin ≤ f) :
    (outputDivider f).1 = 1 ↔ 2200000000 < f := by
  have hpos : 0 < f := lt_of_lt_of_le (by decide) hf
  have habove := lt_outputDivider hf
  refine ⟨fun hone => ?_, fun hlt => ?_⟩
  · rw [hone, Nat.div_lt_iff_lt_mul hpos] at habove
    omega
  · by_contra hne
    have hhalf := half_outputDivider_le hne
    rw [Nat.div_eq_of_lt hlt] at hhalf
    have := outputDivider_pos f
    omega

/-- Settles O13: the loop stops above the ratio, and doubled last at or below it. -/
theorem outputDividerIsSmallestPowerAboveRatio : Obligations.OutputDividerIsSmallestPowerAboveRatio := by
  intro f hf
  have hpos : 0 < f := lt_of_lt_of_le (by decide) hf
  obtain ⟨hpow, hsel⟩ := outputDivider_of_legal hf
  have habove := lt_outputDivider hf
  refine ⟨hpow, hsel, habove, outputDivider_eq_one_iff hf, fun hne => ?_⟩
  have hhalf := half_outputDivider_le hne
  have heven : 2 * ((outputDivider f).1 / 2) = (outputDivider f).1 := by
    refine Nat.mul_div_cancel' (hpow ▸ dvd_pow_self 2 fun hzero => hne ?_)
    rw [hpow, hzero, pow_zero]
  refine ⟨hhalf, ?_, ?_⟩
  · rwa [Nat.div_lt_iff_lt_mul hpos, mul_comm] at habove
  · rw [Nat.le_div_iff_mul_le hpos] at hhalf
    calc f * (outputDivider f).1 = f * (2 * ((outputDivider f).1 / 2)) := by rw [heven]
      _ = 2 * ((outputDivider f).1 / 2 * f) := by ring
      _ ≤ 2 * 2200000000 := Nat.mul_le_mul_left 2 hhalf

end Sys2Proof.Machine
end

section
/-! The reduction of the fraction (41_divider_engine.md R157), and that a reduced fraction lies below its
modulus wherever that passes its own check (R163 (b)). -/

namespace Sys2Proof.Machine

theorem reduceFraction_zero (mod0 : Nat) : reduceFraction 0 mod0 = (0, mod0) := rfl

theorem reduceFraction_of_ne {frac0 : Nat} (mod0 : Nat) (h : frac0 ≠ 0) :
    reduceFraction frac0 mod0 = (frac0 / Nat.gcd frac0 mod0, mod0 / Nat.gcd frac0 mod0) :=
  if_pos h

/-- A nonzero fraction is reduced to lowest terms (R157). -/
theorem gcd_reduceFraction {frac0 : Nat} (mod0 : Nat) (h : frac0 ≠ 0) :
    Nat.gcd (reduceFraction frac0 mod0).1 (reduceFraction frac0 mod0).2 = 1 := by
  rw [reduceFraction_of_ne mod0 h]
  exact Nat.coprime_div_gcd_div_gcd (Nat.gcd_pos_of_pos_left mod0 (Nat.pos_of_ne_zero h))

/-- A fraction in lowest terms is already reduced (R157). -/
theorem reduceFraction_of_coprime {frac mod : Nat} (h : Nat.gcd frac mod = 1) :
    reduceFraction frac mod = (frac, mod) := by
  rcases eq_or_ne frac 0 with rfl | hne
  · exact reduceFraction_zero mod
  · rw [reduceFraction_of_ne mod hne, h, Nat.div_one, Nat.div_one]

/-- The reduction keeps the fraction's value, cross-multiplied (R157). -/
theorem reduceFraction_value (frac0 mod0 : Nat) :
    (reduceFraction frac0 mod0).1 * mod0 = frac0 * (reduceFraction frac0 mod0).2 := by
  rcases eq_or_ne frac0 0 with rfl | hne
  · simp only [reduceFraction_zero, zero_mul]
  · rw [reduceFraction_of_ne mod0 hne]
    dsimp only
    rw [Nat.div_mul_right_comm (Nat.gcd_dvd_left frac0 mod0),
      Nat.mul_div_assoc frac0 (Nat.gcd_dvd_right frac0 mod0)]

/-- The reduction keeps a nonzero modulus nonzero (R157). -/
theorem reduceFraction_mod_ne_zero (frac0 : Nat) {mod0 : Nat} (h : mod0 ≠ 0) :
    (reduceFraction frac0 mod0).2 ≠ 0 := by
  rcases eq_or_ne frac0 0 with rfl | hne
  · exact h
  · rw [reduceFraction_of_ne mod0 hne]
    exact (Nat.div_pos (Nat.gcd_le_right frac0 (Nat.pos_of_ne_zero h))
      (Nat.gcd_pos_of_pos_left mod0 (Nat.pos_of_ne_zero hne))).ne'

/-- A fraction of at most 1 reduces to one below 1, or to `1 / 1`, whose modulus fails its check
(R163 (b)). -/
theorem reduceFraction_lt {frac0 mod0 : Nat} (hle : frac0 ≤ mod0)
    (hmod : 2 ≤ (reduceFraction frac0 mod0).2) :
    (reduceFraction frac0 mod0).1 < (reduceFraction frac0 mod0).2 := by
  rcases eq_or_ne frac0 0 with rfl | hne
  · exact lt_of_lt_of_le Nat.zero_lt_two hmod
  · have hle' : (reduceFraction frac0 mod0).1 ≤ (reduceFraction frac0 mod0).2 := by
      rw [reduceFraction_of_ne mod0 hne]
      exact Nat.div_le_div_right hle
    refine lt_of_le_of_ne hle' fun heq => ?_
    have hgcd := gcd_reduceFraction mod0 hne
    rw [heq, Nat.gcd_self] at hgcd
    omega

/-- Settles O17: a nonzero fraction comes to lowest terms, which a second reduction leaves alone. -/
theorem fractionReduction : Obligations.FractionReduction := by
  intro frac0 mod0
  refine ⟨?zero, fun hne => ⟨reduceFraction_of_ne mod0 hne, gcd_reduceFraction mod0 hne⟩, ?again,
    reduceFraction_value frac0 mod0⟩
  case zero => rintro rfl; exact reduceFraction_zero mod0
  case again =>
    rcases eq_or_ne frac0 0 with rfl | hne
    · rfl
    · exact reduceFraction_of_coprime (gcd_reduceFraction mod0 hne)

end Sys2Proof.Machine
end

section
/-! The quantities of steps 5 and 6 (41_divider_engine.md R155, R156), between the operands of the engine and
the plan it makes of them. -/

namespace Sys2Proof.Machine

/-- `N` of step 5 (R155). -/
def dividerRatio (pfd : Rat) (f : Nat) : Rat := ((f * (outputDivider f).1 : Nat) : Rat) / pfd

/-- `(N − nint) × mod0` of step 6, which `frac0` rounds (R156). -/
def exactFrac (pfd : Rat) (f s : Nat) : Rat :=
  (dividerRatio pfd f - floorNat (dividerRatio pfd f)) * rhu (pfd / s)

theorem enginePlan_nint (pfd : Rat) (f s : Nat) :
    (enginePlan pfd f s).nint = floorNat (dividerRatio pfd f) := rfl

theorem enginePlan_div (pfd : Rat) (f s : Nat) : (enginePlan pfd f s).div = (outputDivider f).1 := rfl

theorem enginePlan_fraction (pfd : Rat) (f s : Nat) :
    ((enginePlan pfd f s).frac, (enginePlan pfd f s).mod)
      = reduceFraction (rhu (exactFrac pfd f s)) (rhu (pfd / s)) := rfl

theorem enginePlan_mismatch_iff (pfd : Rat) (f s : Nat) :
    (enginePlan pfd f s).mismatch = true ↔ (enginePlan pfd f s).achieved ≠ (f : Rat) :=
  decide_eq_true_iff

/-- The lower limit of `nint` in step 9, by the VCO frequency (R153, R159). -/
theorem enginePlan_nintMin (pfd : Rat) (f s : Nat) :
    nintMin (enginePlan pfd f s).presc = if 3600000000 < f * (enginePlan pfd f s).div then 75 else 23 := by
  have hpresc : (enginePlan pfd f s).presc = decide (3600000000 < f * (enginePlan pfd f s).div) := rfl
  simp only [nintMin, hpresc, decide_eq_true_eq, Config.nintMinHi, Config.nintMinLo]

/-- The two forms of step 8 are one formula: a zero fraction adds nothing (R158). -/
theorem achievedFreq_eq (pfd : Rat) (nint frac mod div : Nat) :
    achievedFreq pfd nint frac mod div = pfd * (nint + (frac : Rat) / mod) / div := by
  unfold achievedFreq
  split
  case isTrue hzero => simp only [hzero, Nat.cast_zero, zero_div, add_zero]
  case isFalse => rfl

theorem enginePlan_achieved (pfd : Rat) (f s : Nat) :
    (enginePlan pfd f s).achieved
      = pfd * ((enginePlan pfd f s).nint + ((enginePlan pfd f s).frac : Rat) / (enginePlan pfd f s).mod)
        / (enginePlan pfd f s).div :=
  achievedFreq_eq pfd _ _ _ _

/-- Rounding half up does not pass a natural bound. -/
theorem rhu_le {q : Rat} {n : Nat} (h : q ≤ n) : rhu q ≤ n := by
  rw [rhu_eq, ← Nat.lt_succ_iff, Nat.floor_lt' n.succ_ne_zero, Nat.cast_succ]
  linarith

/-- The fraction is at most the modulus before the reduction (R156). -/
theorem rhu_exactFrac_le (pfd : Rat) (f s : Nat) : rhu (exactFrac pfd f s) ≤ rhu (pfd / s) := by
  have hone : dividerRatio pfd f - floorNat (dividerRatio pfd f) ≤ 1 := by
    have := Nat.lt_floor_add_one (dividerRatio pfd f)
    rw [floorNat_eq]
    linarith
  exact rhu_le (mul_le_of_le_one_left (Nat.cast_nonneg _) hone)

/-- A plan whose modulus passes its check passes the fraction check too (R163 (b)). -/
theorem enginePlan_frac_lt {pfd : Rat} {f s : Nat} (hmod : 2 ≤ (enginePlan pfd f s).mod) :
    (enginePlan pfd f s).frac < (enginePlan pfd f s).mod :=
  reduceFraction_lt (rhu_exactFrac_le pfd f s) hmod

end Sys2Proof.Machine
end

section
/-! The engine's checks in their order (41_divider_engine.md R151, R154, R156, R159, R160). -/

namespace Sys2Proof.Machine

/-! ## The phase detector -/

theorem phaseDetectorOf_of_zero {par : Params} {c : Cfg} (h : c.rcount = 0) :
    phaseDetectorOf par c = .error .pfdRange :=
  if_pos h

/-- Step 4 with an R-counter is its range check alone (R154). -/
theorem phaseDetectorOf_of_ne {par : Params} {c : Cfg} (h : c.rcount ≠ 0) {pfd : Rat}
    (hpfd : pfd = (c.ref.toNat * (1 + c.doubler.toNat) : Nat) / (c.rcount.toNat * (1 + c.div2.toNat) : Nat)) :
    phaseDetectorOf par c = if pfd < par.pfdMin ∨ par.pfdMax < pfd then .error .pfdRange else .ok pfd := by
  rw [hpfd]
  exact if_neg h

/-- Settles O19: a zero R-counter, then the two sides of the range check. -/
theorem phaseDetectorRangeCheck : Obligations.PhaseDetectorRangeCheck := by
  intro par c pfd
  refine ⟨phaseDetectorOf_of_zero, fun hne hout => ?_, fun hne hmin hmax => ?_⟩
  · rw [phaseDetectorOf_of_ne hne rfl, if_pos hout]
  · rw [phaseDetectorOf_of_ne hne rfl, if_neg (not_or.mpr ⟨hmin.not_gt, hmax.not_gt⟩)]

/-! ## Step 9 -/

theorem validatePlan_of_modOut {p : Plan} (h : p.mod < 2 ∨ 4095 < p.mod) :
    validatePlan p = .error .modRange :=
  if_pos h

theorem validatePlan_of_modIn {p : Plan} (hmin : 2 ≤ p.mod) (hmax : p.mod ≤ 4095) (hfrac : p.frac < p.mod) :
    validatePlan p = if p.nint < nintMin p.presc ∨ 65535 < p.nint then .error .nintRange else .ok p := by
  have hmod : ¬(p.mod < Config.modMin ∨ Config.modMax < p.mod) := not_or.mpr ⟨hmin.not_gt, hmax.not_gt⟩
  have hfrac' : ¬p.mod - 1 < p.frac := by omega
  rw [validatePlan, if_neg hmod, if_neg hfrac']
  rfl

/-! ## The whole engine -/

section
variable {par : Params} {c : Cfg} {f : Int}

theorem engineEval_of_illegal (hf : ¬LegalFreq par f) (s : Nat) : engineEval par c f s = .error .freqRange :=
  if_pos (Bool.eq_false_iff.mpr fun h => hf ((freqInRange_iff par f).mp h))

theorem freqInRange_of_legal (hf : LegalFreq par f) : ¬freqInRange par f = false := by
  simp [(freqInRange_iff par f).mpr hf]

theorem engineEval_of_badReference (hf : LegalFreq par f) {e : Failure} (hpd : phaseDetectorOf par c = .error e)
    (s : Nat) : engineEval par c f s = .error .pfdRange := by
  simp only [engineEval, if_neg (freqInRange_of_legal hf), hpd, phaseDetector_error hpd]

theorem engineEval_of_zeroStep (hf : LegalFreq par f) {pfd : Rat} (hpd : phaseDetectorOf par c = .ok pfd) :
    engineEval par c f 0 = .error .modRange := by
  simp only [engineEval, if_neg (freqInRange_of_legal hf), hpd, if_true]

theorem engineEval_of_step (hf : LegalFreq par f) {pfd : Rat} (hpd : phaseDetectorOf par c = .ok pfd) {s : Nat}
    (hs : s ≠ 0) : engineEval par c f s = validatePlan (enginePlan pfd f.toNat s) := by
  simp only [engineEval, if_neg (freqInRange_of_legal hf), hpd, if_neg hs]

/-- An evaluation whose modulus passes its check answers by the integer divider (R159, R163 (b)). -/
theorem engineEval_of_modIn (hf : LegalFreq par f) {pfd : Rat} (hpd : phaseDetectorOf par c = .ok pfd) {s : Nat}
    (hs : s ≠ 0) {p : Plan} (hp : p = enginePlan pfd f.toNat s) (hmin : 2 ≤ p.mod) (hmax : p.mod ≤ 4095) :
    engineEval par c f s
      = if p.nint < nintMin p.presc ∨ 65535 < p.nint then .error .nintRange else .ok p := by
  subst hp
  rw [engineEval_of_step hf hpd hs, validatePlan_of_modIn hmin hmax (enginePlan_frac_lt hmin)]

end

/-- Settles O20: each clause is the equation of the first check that fails, the last that of none. -/
theorem engineReportsFirstFailingCheck : Obligations.EngineReportsFirstFailingCheck := by
  intro par c f s
  refine ⟨fun hf => engineEval_of_illegal hf s,
    fun hf ⟨e, hpd⟩ => engineEval_of_badReference hf hpd s, ?_⟩
  intro pfd hf hpd p nmin
  have hnmin : nintMin p.presc = nmin := enginePlan_nintMin pfd f.toNat s
  refine ⟨?zeroStep, fun hs hmod => ?modOut, fun hs hmin hmax hnint => ?nintOut,
    fun hs hmin hmax hnint hnint' => ?accepted⟩
  case zeroStep =>
    rintro rfl
    exact engineEval_of_zeroStep hf hpd
  case modOut => rw [engineEval_of_step hf hpd hs, validatePlan_of_modOut hmod]
  case nintOut =>
    rw [engineEval_of_modIn hf hpd hs rfl hmin hmax]
    exact if_pos (hnmin ▸ hnint)
  case accepted =>
    rw [engineEval_of_modIn hf hpd hs rfl hmin hmax]
    exact if_neg (not_or.mpr ⟨(hnmin ▸ hnint).not_gt, hnint'.not_gt⟩)

/-- Settles O16: step 9 is the one that could raise the code, and a modulus that passes there bounds the
fraction. -/
theorem fractionFailureUnreachable : Obligations.FractionFailureUnreachable := by
  intro par c f s h
  by_cases hf : LegalFreq par f
  case neg => simp [engineEval_of_illegal hf] at h
  rcases hpd : phaseDetectorOf par c with e | pfd
  · simp [engineEval_of_badReference hf hpd] at h
  rcases eq_or_ne s 0 with rfl | hs
  · simp [engineEval_of_zeroStep hf hpd] at h
  by_cases hmod : (enginePlan pfd f.toNat s).mod < 2 ∨ 4095 < (enginePlan pfd f.toNat s).mod
  · simp [engineEval_of_step hf hpd hs, validatePlan_of_modOut hmod] at h
  · rw [engineEval_of_modIn hf hpd hs rfl (by omega) (by omega)] at h
    split at h <;> cases h

/-- Settles O21: the phase-detector frequency is 10 MHz, and the plan of each example passes the checks. -/
theorem engineWorkedExamples : Obligations.EngineWorkedExamples := by
  intro c href hrcount hdoubler hdiv2
  have hpd : phaseDetectorOf State.reset.par c = .ok 10000000 := by
    rw [phaseDetectorOf, href, hrcount, hdoubler, hdiv2]
    decide +kernel
  have hplan : ∀ f : Int, 34385000 ≤ f → f ≤ 4400000000 →
      engineEval State.reset.par c f 10000 = validatePlan (enginePlan 10000000 f.toNat 10000) :=
    fun f hmin hmax => engineEval_of_step ⟨hmin, hmax⟩ hpd (by decide)
  refine ⟨?_, ?_⟩
  · rw [hplan 102500000 (by decide) (by decide)]
    decide +kernel
  · rw [hplan 433920000 (by decide) (by decide)]
    decide +kernel

end Sys2Proof.Machine
end

section
/-! How far the achieved frequency lies from the requested one (41_divider_engine.md R158, R164). -/

namespace Sys2Proof.Machine

/-- The reduced fraction has the value of the unreduced one (R157). -/
theorem enginePlan_fraction_value {pfd : Rat} (f : Nat) {s : Nat} (hmod0 : rhu (pfd / s) ≠ 0) :
    ((enginePlan pfd f s).frac : Rat) / (enginePlan pfd f s).mod
      = (rhu (exactFrac pfd f s) : Rat) / rhu (pfd / s) := by
  have hmod : (enginePlan pfd f s).mod ≠ 0 := reduceFraction_mod_ne_zero _ hmod0
  rw [div_eq_div_iff (Nat.cast_ne_zero.mpr hmod) (Nat.cast_ne_zero.mpr hmod0)]
  exact_mod_cast reduceFraction_value (rhu (exactFrac pfd f s)) (rhu (pfd / s))

/-- The achieved frequency is off by the rounding of the fraction alone, scaled by `pfd / (mod0 × div)`
(R158). -/
theorem enginePlan_achieved_sub {pfd : Rat} (hpfd : 0 < pfd) (f : Nat) {s : Nat} (hmod0 : rhu (pfd / s) ≠ 0) :
    (enginePlan pfd f s).achieved - f
      = pfd / (rhu (pfd / s) * (enginePlan pfd f s).div) * (rhu (exactFrac pfd f s) - exactFrac pfd f s) := by
  have hdiv : ((outputDivider f).1 : Rat) ≠ 0 := Nat.cast_ne_zero.mpr (outputDivider_pos f).ne'
  have hmod0' : (rhu (pfd / s) : Rat) ≠ 0 := Nat.cast_ne_zero.mpr hmod0
  have hf : (f : Rat) = pfd * dividerRatio pfd f / (outputDivider f).1 := by
    rw [dividerRatio, mul_div_cancel₀ _ hpfd.ne', Nat.cast_mul, mul_div_cancel_right₀ _ hdiv]
  rw [enginePlan_achieved, enginePlan_fraction_value f hmod0, enginePlan_nint, enginePlan_div, hf, exactFrac]
  field_simp
  ring

theorem dividerRatio_nonneg {pfd : Rat} (hpfd : 0 < pfd) (f : Nat) : 0 ≤ dividerRatio pfd f :=
  div_nonneg (Nat.cast_nonneg _) hpfd.le

theorem exactFrac_nonneg {pfd : Rat} (hpfd : 0 < pfd) (f s : Nat) : 0 ≤ exactFrac pfd f s := by
  have hfloor := Nat.floor_le (dividerRatio_nonneg hpfd f)
  rw [exactFrac, floorNat_eq]
  exact mul_nonneg (sub_nonneg.mpr hfloor) (Nat.cast_nonneg _)

/-- Settles O15: rounding half up is off by at most one half. -/
theorem achievedFrequencyWithinRoundingBound : Obligations.AchievedFrequencyWithinRoundingBound := by
  intro pfd f s hpfd hmod0
  have hscale : 0 ≤ pfd / (rhu (pfd / s) * (enginePlan pfd f s).div) := by positivity
  calc |(enginePlan pfd f s).achieved - f|
      = pfd / (rhu (pfd / s) * (enginePlan pfd f s).div) * |rhu (exactFrac pfd f s) - exactFrac pfd f s| := by
        rw [enginePlan_achieved_sub hpfd f (Nat.one_le_iff_ne_zero.mp hmod0), abs_mul, abs_of_nonneg hscale]
    _ ≤ pfd / (rhu (pfd / s) * (enginePlan pfd f s).div) * (1 / 2) :=
        mul_le_mul_of_nonneg_left (rhu_error _ (exactFrac_nonneg hpfd f s)) hscale
    _ = pfd / (2 * rhu (pfd / s) * (enginePlan pfd f s).div) := by ring

theorem rhu_natCast (m : Nat) : rhu (m : Rat) = m := by
  have h := rhu_div m 1 Nat.one_pos
  rw [Nat.cast_one, div_one] at h
  omega

/-- A step that divides the phase-detector frequency is the modulus' unit, so the bound of R158 is below one
step (R164). -/
theorem enginePlan_within_step {pfd : Rat} (hpfd : 0 < pfd) (f : Nat) {s m : Nat}
    (hstep : pfd = (m : Rat) * s) :
    |(enginePlan pfd f s).achieved - f| ≤ s := by
  have hprod : (m : Rat) * s ≠ 0 := hstep ▸ hpfd.ne'
  obtain ⟨hm, hs⟩ := mul_ne_zero_iff.mp hprod
  have hmod0 : rhu (pfd / s) = m := by rw [hstep, mul_div_cancel_right₀ _ hs, rhu_natCast]
  have hm' : m ≠ 0 := Nat.cast_ne_zero.mp hm
  have hdiv : (1 : Rat) ≤ (enginePlan pfd f s).div := Nat.one_le_cast.mpr (outputDivider_pos f)
  calc |(enginePlan pfd f s).achieved - f|
      ≤ pfd / (2 * rhu (pfd / s) * (enginePlan pfd f s).div) :=
        achievedFrequencyWithinRoundingBound pfd f s hpfd (by omega)
    _ = s / (2 * (enginePlan pfd f s).div) := by
        rw [hmod0, hstep, mul_comm 2 (m : Rat), mul_assoc, mul_div_mul_left _ _ hm]
    _ ≤ s := div_le_self (Nat.cast_nonneg s) (by linarith)

/-- Settles O14: the ranges are those the engine checked, the distance is the rounding bound of R158. -/
theorem engineNeverSilentlyWrong : Obligations.EngineNeverSilentlyWrong := by
  intro par c f s
  refine ⟨fun p h => ?accepted, fun e h => engineEval_error h⟩
  case accepted =>
    obtain ⟨hf, -, pfd, hpd, rfl, hmod, hmod', hfrac, hnint, hnint'⟩ := engineEval_ok h
    obtain ⟨-, hmin, -, -⟩ := phaseDetector_ok hpd
    have hpos : 0 < pfd := (pfdMin_pos par).trans_le hmin
    have hcast : ((f.toNat : Nat) : Rat) = (f : Rat) := by exact_mod_cast toNat_of_legalFreq hf
    refine ⟨hmod, hmod', hfrac, hnint, hnint', hf, hpd, rfl, ?mismatch, fun m hstep _ => ?withinStep⟩
    case mismatch => rw [enginePlan_mismatch_iff, hcast]
    case withinStep =>
      rw [← hcast]
      exact enginePlan_within_step hpos f.toNat hstep

end Sys2Proof.Machine
end

section
/-! The engine by naturals alone (41_divider_engine.md R162): the phase-detector frequency is `b / k`. -/

namespace Sys2Proof.Machine

/-- `B` of R162: the numerator of the phase-detector frequency. -/
def pfdNum (c : Cfg) : Nat := c.ref.toNat * (1 + c.doubler.toNat)

/-- `C` of R162: the denominator of the phase-detector frequency. -/
def pfdDen (c : Cfg) : Nat := c.rcount.toNat * (1 + c.div2.toNat)

theorem pfdDen_pos_iff (c : Cfg) : 1 ≤ pfdDen c ↔ c.rcount ≠ 0 := by
  have hdiv2 : 1 + c.div2.toNat ≠ 0 := by omega
  rw [pfdDen, Nat.one_le_iff_ne_zero, mul_ne_zero_iff_right hdiv2, Ne, Ne, BitVec.toNat_eq]
  rfl

/-- The range check of step 4 without a division (R162). -/
theorem phaseDetectorOf_ok_iff (par : Params) (c : Cfg) :
    (∃ pfd, phaseDetectorOf par c = .ok pfd) ↔
      1 ≤ pfdDen c ∧ par.pfdMin * pfdDen c ≤ pfdNum c ∧ (pfdNum c : Rat) ≤ par.pfdMax * pfdDen c := by
  rw [pfdDen_pos_iff]
  constructor
  · rintro ⟨pfd, hpd⟩
    obtain ⟨hne, hmin, hmax, hpfd⟩ := phaseDetector_ok hpd
    have hk : (0 : Rat) < pfdDen c := Nat.cast_pos.mpr ((pfdDen_pos_iff c).mpr hne)
    rw [hpfd] at hmin hmax
    exact ⟨hne, (le_div_iff₀ hk).mp hmin, (div_le_iff₀ hk).mp hmax⟩
  · rintro ⟨hne, hmin, hmax⟩
    have hk : (0 : Rat) < pfdDen c := Nat.cast_pos.mpr ((pfdDen_pos_iff c).mpr hne)
    obtain ⟨-, -, hok⟩ := phaseDetectorRangeCheck par c
    exact ⟨_, hok hne ((le_div_iff₀ hk).mpr hmin) ((div_le_iff₀ hk).mpr hmax)⟩

/-- `N = A / B` with `A = f × div × C` (R162). -/
theorem dividerRatio_natDiv (b k f : Nat) :
    dividerRatio ((b : Rat) / k) f = ((f * (outputDivider f).1 * k : Nat) : Rat) / b := by
  rw [dividerRatio, div_div_eq_mul_div, ← Nat.cast_mul]

theorem enginePlan_nint_natDiv (b k f s : Nat) :
    (enginePlan ((b : Rat) / k) f s).nint = f * (outputDivider f).1 * k / b := by
  rw [enginePlan_nint, dividerRatio_natDiv, floorNat_div]

theorem rhu_pfd_natDiv (b : Nat) {k s : Nat} (hk : 0 < k) (hs : 0 < s) :
    rhu ((b : Rat) / k / s) = (2 * b + k * s) / (2 * k * s) := by
  rw [div_div, ← Nat.cast_mul, rhu_div b (k * s) (Nat.mul_pos hk hs), mul_assoc 2 k s]

/-- A quotient of naturals less its floor is the remainder's share. -/
theorem natDiv_sub_floor (a : Nat) {b : Nat} (hb : 0 < b) :
    (a : Rat) / b - (a / b : Nat) = ((a % b : Nat) : Rat) / b := by
  have hb' : (b : Rat) ≠ 0 := Nat.cast_ne_zero.mpr hb.ne'
  rw [div_sub' hb', ← Nat.cast_mul, sub_eq_of_eq_add]
  exact_mod_cast (Nat.mod_add_div a b).symm

theorem rhu_exactFrac_natDiv {b : Nat} (hb : 0 < b) (k f s : Nat) :
    rhu (exactFrac ((b : Rat) / k) f s)
      = (2 * (f * (outputDivider f).1 * k % b) * rhu ((b : Rat) / k / s) + b) / (2 * b) := by
  rw [exactFrac, dividerRatio_natDiv, floorNat_div, natDiv_sub_floor _ hb, div_mul_eq_mul_div, ← Nat.cast_mul,
    rhu_div _ b hb, mul_assoc 2]

/-- The achieved frequency over one denominator (R162). -/
theorem achievedFreq_natDiv (b nint frac : Nat) {k mod div : Nat} (hk : 0 < k) (hmod : mod ≠ 0)
    (hdiv : 0 < div) :
    achievedFreq ((b : Rat) / k) nint frac mod div
      = (b * (nint * mod + frac) : Nat) / (k * mod * div : Nat) := by
  have hk' : (k : Rat) ≠ 0 := Nat.cast_ne_zero.mpr hk.ne'
  have hmod' : (mod : Rat) ≠ 0 := Nat.cast_ne_zero.mpr hmod
  have hdiv' : (div : Rat) ≠ 0 := Nat.cast_ne_zero.mpr hdiv.ne'
  rw [achievedFreq_eq]
  push_cast
  field_simp

theorem natDiv_ne_natCast_iff {x y f : Nat} (hy : y ≠ 0) : (x : Rat) / y ≠ f ↔ x ≠ f * y := by
  rw [Ne, div_eq_iff (Nat.cast_ne_zero.mpr hy)]
  exact_mod_cast Iff.rfl

/-- Settles O18: each step of the engine at the frequency `b / k`. -/
theorem integerOnlyFormAgrees : Obligations.IntegerOnlyFormAgrees := by
  intro par c b k
  refine ⟨phaseDetectorOf_ok_iff par c, ?_⟩
  intro pfd f s hpd hs p a mod0 frac0
  obtain ⟨hne, hmin, -, rfl⟩ := phaseDetector_ok hpd
  have hk : 0 < k := (pfdDen_pos_iff c).mpr hne
  have hb : 0 < b :=
    Nat.cast_pos.mp ((div_pos_iff_of_pos_right (Nat.cast_pos.mpr hk)).mp ((pfdMin_pos par).trans_le hmin))
  have hmod0 : rhu ((b : Rat) / k / s) = mod0 := rhu_pfd_natDiv b hk hs
  refine ⟨enginePlan_nint_natDiv b k f s, ?fraction, fun hmod => ?achieved⟩
  case fraction =>
    rw [enginePlan_fraction, rhu_exactFrac_natDiv hb, hmod0]
    rfl
  case achieved =>
    have hach : p.achieved = (b * (p.nint * p.mod + p.frac) : Nat) / (k * p.mod * p.div : Nat) :=
      achievedFreq_natDiv b p.nint p.frac hk hmod (outputDivider_pos f)
    refine ⟨hach, ?_⟩
    have hden : k * p.mod * p.div ≠ 0 :=
      Nat.mul_ne_zero (Nat.mul_ne_zero hk.ne' hmod) (outputDivider_pos f).ne'
    rw [enginePlan_mismatch_iff, hach, natDiv_ne_natCast_iff hden, ← mul_assoc, ← mul_assoc]

end Sys2Proof.Machine
end

section
/-! A `SET_FREQ*` that tunes, one that is out of range, and their command words (44_controller_ops.md R251 to
R254; 30_encoding.md R107). -/

namespace Sys2Proof.Machine

theorem toNat_append_eq_add {m n : Nat} (hi : BitVec m) (lo : BitVec n) :
    (hi ++ lo).toNat = hi.toNat * 2 ^ n + lo.toNat := by
  rw [BitVec.toNat_append, ← Nat.shiftLeft_add_eq_or_of_lt lo.isLt, Nat.shiftLeft_eq]

/-- The command word of an operation as a number: its opcode and its two operands (R107, R108, R110). -/
theorem wordIs_encode (i : Instr) : wordIs i i.opcode.toNat i.operandA.toNat i.operandB.toNat := by
  have hword : (encode i).toNat
      = (i.opcode.toNat * 2 ^ 64 + i.operandA.toNat) * 2 ^ 64 + i.operandB.toNat := by
    rw [← toNat_append_eq_add, ← toNat_append_eq_add]
    rfl
  rw [wordIs, hword]
  ring

/-- An operation that is `SetFreqCommon` tunes where it finds a plan and loses no write (R251, R197). -/
theorem tunes_of_exec {i : Instr} {f step : Operand} {mode : StepMode} {s : State}
    (hexec : exec i s = .next (setFreqCommon (unsigned f) mode step s)) :
    Tunes i f s (withMode s mode (if mode = .direct then step else s.cfg.step)) := by
  intro p hlaw hplan hgood
  have hf : LegalFreq s.par (unsigned f) := (retunePlan_ok hplan).1
  have hcommit := retuneCommit_of_good (unsigned f) p
    (withMode s mode (if mode = .direct then step else s.cfg.step)) hgood
  rw [hexec, setFreqCommon_of_noLaw rfl hf hlaw, retune_eq, hplan]
  dsimp only
  rw [hcommit]
  rfl

/-- Settles O27: the three operations are `SetFreqCommon`, each with its step mode and step. -/
theorem setFreqTunes : Obligations.SetFreqTunes := fun s f step =>
  have hfreq : exec (.setFreq f) s = .next (setFreqCommon (unsigned f) .resolve 0 s) := rfl
  have hgcd : exec (.setFreqGcd f) s = .next (setFreqCommon (unsigned f) .resolveGcd 0 s) := rfl
  have hstep : exec (.setFreqStep f step) s = .next (setFreqCommon (unsigned f) .direct step s) := rfl
  ⟨tunes_of_exec hfreq, tunes_of_exec hgcd, tunes_of_exec hstep,
    wordIs_encode (.setFreq f), wordIs_encode (.setFreqGcd f), wordIs_encode (.setFreqStep f step)⟩

/-- The range check comes before everything a `SET_FREQ*` records (R251, R293). -/
theorem setFreqCommon_of_illegal {f : Int} {s : State} (hf : ¬LegalFreq s.par f) (mode : StepMode)
    (step : Operand) : setFreqCommon f mode step s = { s with rsp := failure .freqRange } :=
  if_pos (Bool.eq_false_iff.mpr fun h => hf ((freqInRange_iff s.par f).mp h))

/-- Settles O30: the three operations are `SetFreqCommon`, whose first check fails. -/
theorem setFreqOutOfRangeChangesNothing : Obligations.SetFreqOutOfRangeChangesNothing := by
  intro s f step hf
  have hrefused := setFreqCommon_of_illegal hf
  exact ⟨congrArg Host.Outcome.next (hrefused .resolve 0), congrArg Host.Outcome.next (hrefused .resolveGcd 0),
    congrArg Host.Outcome.next (hrefused .direct step)⟩

end Sys2Proof.Machine
end

section
/-! The search of the Step Resolver and the evaluation of a `Retune` (42_step_resolver.md R190 to R198). -/

namespace Sys2Proof.Machine

theorem toOption_eq_some_iff {r : Except Failure Plan} {p : Plan} : r.toOption = some p ↔ r = .ok p := by
  cases r <;> simp [Except.toOption]

theorem toOption_eq_none_iff {r : Except Failure Plan} : r.toOption = none ↔ ∃ e, r = .error e := by
  cases r <;> simp [Except.toOption]

/-- The candidates by the remainder of R192, which R6 keeps defined: every allowed step is positive. -/
theorem candidates_eq (par : Params) (c : Cfg) (f : Nat) (useGcd : Bool) :
    candidates par c f useGcd = (if useGcd then [Nat.gcd f c.ref.toNat] else [])
      ++ (par.steps.reverse.filter fun s => decide (f % s = 0)) ++ par.steps := by
  have hexact : exactCandidates par f = par.steps.reverse.filter fun s => decide (f % s = 0) := by
    refine List.filter_congr fun s hs => ?_
    rw [natMod_eq f s (steps_pos par s (List.mem_reverse.mp hs))]
  rw [candidates, gcdCandidates, hexact]

/-- One gcd candidate at most, and each allowed step at most twice (R195). -/
theorem length_candidates_le (par : Params) (c : Cfg) (f : Nat) (useGcd : Bool) :
    (candidates par c f useGcd).length ≤ 1 + 2 * par.steps.length := by
  have hgcd : (gcdCandidates c f useGcd).length ≤ 1 := by cases useGcd <;> simp [gcdCandidates]
  have hexact : (exactCandidates par f).length ≤ par.steps.reverse.length := List.length_filter_le _ _
  rw [List.length_reverse] at hexact
  simp only [candidates, List.length_append]
  omega

theorem mem_candidates {par : Params} {c : Cfg} {f : Nat} {useGcd : Bool} {s : Nat}
    (h : s ∈ candidates par c f useGcd) :
    s ∈ par.steps ∨ (useGcd = true ∧ s = Nat.gcd f c.ref.toNat) := by
  simp only [candidates, List.mem_append] at h
  rcases h with (hgcd | hexact) | hall
  · rw [gcdCandidates, List.mem_ite_nil_right, List.mem_singleton] at hgcd
    exact .inr hgcd
  · exact .inl (List.mem_reverse.mp (List.mem_of_mem_filter hexact))
  · exact .inl hall

section
variable {par : Params} {c : Cfg} {f : Int}

/-- "First success wins" (R190): the search is the first evaluation that answers a plan. -/
theorem toOption_firstSuccess (l : List Nat) :
    (firstSuccess par c f l).toOption = l.findSome? fun s => (engineEval par c f s).toOption := by
  induction l with
  | nil => rfl
  | cons s rest ih =>
    rw [firstSuccess, List.findSome?_cons, ← ih]
    cases engineEval par c f s <;> rfl

theorem firstSuccess_ok_iff {l : List Nat} {p : Plan} :
    firstSuccess par c f l = .ok p ↔ ∃ before s after, l = before ++ s :: after ∧
      engineEval par c f s = .ok p ∧ ∀ x ∈ before, ∃ e, engineEval par c f x = .error e := by
  rw [← toOption_eq_some_iff, toOption_firstSuccess, List.findSome?_eq_some_iff]
  simp only [toOption_eq_some_iff, toOption_eq_none_iff]

theorem firstSuccess_error_iff {l : List Nat} {e : Failure} :
    firstSuccess par c f l = .error e ↔ e = .noStep ∧ ∀ x ∈ l, ∃ e', engineEval par c f x = .error e' := by
  have hnone : (∃ e', firstSuccess par c f l = .error e')
      ↔ ∀ x ∈ l, ∃ e', engineEval par c f x = .error e' := by
    rw [← toOption_eq_none_iff, toOption_firstSuccess, List.findSome?_eq_none_iff]
    simp only [toOption_eq_none_iff]
  rw [← hnone]
  constructor
  · exact fun h => ⟨firstSuccess_error h, e, h⟩
  · rintro ⟨rfl, e', h⟩
    rwa [firstSuccess_error h] at h

theorem engineEval_step {s : Nat} {p : Plan} (h : engineEval par c f s = .ok p) : p.step = s := by
  obtain ⟨-, -, pfd, -, rfl, -⟩ := engineEval_ok h
  rfl

end

/-- Settles O23: the search of R190 over the candidates of R191 to R193. -/
theorem resolverSearchOrder : Obligations.ResolverSearchOrder := by
  intro par c f useGcd
  rw [← candidates_eq]
  exact ⟨length_candidates_le par c f.toNat useGcd, fun _ => firstSuccess_ok_iff, fun _ => firstSuccess_error_iff⟩

/-- Settles O24: the step of an accepted plan is the candidate it was evaluated with. -/
theorem resolverStepPolicy : Obligations.ResolverStepPolicy := by
  intro par c f useGcd p h
  obtain ⟨s, hmem, hs⟩ := firstSuccess_ok h
  rw [engineEval_step hs]
  exact mem_candidates hmem

/-! ## The evaluation of a `Retune` -/

section
variable {par : Params} {c : Cfg} {f : Int}

theorem retunePlan_of_illegal (hf : ¬LegalFreq par f) : retunePlan par c f = .error .freqRange :=
  if_pos (Bool.eq_false_iff.mpr fun h => hf ((freqInRange_iff par f).mp h))

theorem retunePlan_of_badReference (hf : LegalFreq par f) {e : Failure} (hpd : phaseDetectorOf par c = .error e) :
    retunePlan par c f = .error .pfdRange := by
  simp only [retunePlan, if_neg (freqInRange_of_legal hf), hpd, phaseDetector_error hpd]

theorem retunePlan_of_ranges (hf : LegalFreq par f) {pfd : Rat} (hpd : phaseDetectorOf par c = .ok pfd) :
    retunePlan par c f = planByMode par c f := by
  simp only [retunePlan, if_neg (freqInRange_of_legal hf), hpd]

/-- A search reports `ERR_NO_STEP` and no other reason (R194, R198). -/
theorem planByMode_error {e : Failure} (hmode : c.stepMode ≠ .direct) (h : planByMode par c f = .error e) :
    e = .noStep := by
  unfold planByMode at h
  split at h
  · exact absurd ‹_› hmode
  · exact firstSuccess_error h
  · exact firstSuccess_error h

end

/-- Settles O25: each range check is an equation of `retunePlan`; past both it is `planByMode`. -/
theorem retuneEvaluatesByStepMode : Obligations.RetuneEvaluatesByStepMode := by
  intro par c f
  refine ⟨retunePlan_of_illegal, fun hf ⟨e, hpd⟩ => retunePlan_of_badReference hf hpd, fun pfd hf hpd => ?_⟩
  rw [retunePlan_of_ranges hf hpd]
  refine ⟨?direct, ?search, ?searchGcd, fun hmode e => planByMode_error hmode, fun p _ => storeStep_toNat p.step⟩
  all_goals
    intro hmode
    rw [planByMode, hmode]

end Sys2Proof.Machine
end

section
/-! A tick that retunes (43_glide_tick.md R228, 60_exceptions.md R293). -/

namespace Sys2Proof.Machine

/-! ## `Retune` by its three ends (R197) -/

section
variable {f : Int} {s : State}

theorem retune_of_unplanned {e : Failure} (hplan : retunePlan s.par s.cfg f = .error e) :
    retune f s = (.error e, { s with plan := .failed e }) := by
  rw [retune_eq, hplan]

theorem retune_of_good {p : Plan} (hplan : retunePlan s.par s.cfg f = .ok p)
    (hgood : ∀ k < 6, s.answer k = true) : retune f s = (.ok p.mismatch, retuned f p s) := by
  rw [retune_eq, hplan]
  exact retuneCommit_of_good f p s hgood

theorem retune_of_bad {p : Plan} (hplan : retunePlan s.par s.cfg f = .ok p) {k : Nat} (hk : k < 6)
    (hgood : ∀ j < k, s.answer j = true) (hbad : s.answer k = false) :
    retune f s = (.error .transport, retuneCut k p s) := by
  rw [retune_eq, hplan]
  exact retuneCommit_of_bad f p s k hk hgood hbad

end

/-! ## What steps 2 to 5 leave for the retune (R231) -/

section
variable {dt : Operand} {s m : State}

theorem Moved.retunePlan_eq (h : Moved dt s m) (f : Int) :
    retunePlan m.par m.cfg f = retunePlan s.par s.cfg f := by
  obtain ⟨_, _, rfl⟩ := h
  rfl

theorem Moved.committed_eq (h : Moved dt s m) : m.committed = s.committed := by
  obtain ⟨_, _, rfl⟩ := h
  rfl

theorem Moved.answer_eq (h : Moved dt s m) (k : Nat) : m.answer k = s.answer k := by
  obtain ⟨_, _, rfl⟩ := h
  rfl

/-- A tick to a frequency that is not committed ends as its `Retune` does, with `locked` clear (R228). -/
theorem exec_tick_of_new {r : Int × State} (hr : r = tickTarget (moveFrequency dt s)) (hlaw : ¬NoLaw s)
    (hnew : ∀ f, s.committed = some f → (f : Int) ≠ r.1) :
    exec (.tick dt) s = .next ((retune r.1 r.2).2.clearLocked.finishRetune (retune r.1 r.2).1) := by
  subst hr
  rw [← (moved_tickTarget dt s).committed_eq, ← settledOn_eq_false] at hnew
  have htick : exec (.tick dt) s = .next (tick dt s) := rfl
  rcases tick_cases dt s hlaw with ⟨-, hend⟩ | ⟨hsettled, -⟩ | ⟨hsettled, -⟩
  · rw [htick, hend]
  all_goals
    exact absurd (hnew.symm.trans hsettled) Bool.false_ne_true

end

/-- Settles O44: the tick ends as a `Retune` whose six writes succeed. -/
theorem tickRetunes : Obligations.TickRetunes := by
  intro s dt p hlaw r hnew hplan hgood
  have hm : Moved dt s r.2 := moved_tickTarget dt s
  rw [← hm.retunePlan_eq] at hplan
  rw [exec_tick_of_new rfl hlaw hnew, retune_of_good hplan fun k hk => (hm.answer_eq k).trans (hgood k hk)]
  rfl

/-- Settles O45: the tick ends as a `Retune` without a plan, or as one whose commit is cut at write `k`. -/
theorem tickRetuneFailures : Obligations.TickRetuneFailures := by
  intro s dt hlaw r hnew
  have hm : Moved dt s r.2 := moved_tickTarget dt s
  rw [exec_tick_of_new rfl hlaw hnew]
  simp only [← hm.retunePlan_eq, ← hm.answer_eq]
  refine ⟨fun e hplan => ?unplanned, fun p k hplan hk hgood hbad => ?cut⟩
  case unplanned =>
    rw [retune_of_unplanned hplan]
    rfl
  case cut =>
    rw [retune_of_bad hplan hk hgood hbad]
    rfl

end Sys2Proof.Machine
end

section
/-! A `SET_FREQ*` on the glide path, the lock-assist operation and a tick with no law active
(44_controller_ops.md R251, R261; 43_glide_tick.md R211, R230). -/

namespace Sys2Proof.Machine

/-- The glide path of R251: with a law active a legal frequency is recorded, and nothing is sent. -/
theorem setFreqCommon_of_law {f : Int} {s : State} (hlaw : ¬NoLaw s) (hf : LegalFreq s.par f)
    (mode : StepMode) (step : Operand) :
    setFreqCommon f mode step s
      = { withMode s mode (if mode = .direct then step else s.cfg.step) with
          g := basedGlide s.g f, rsp := plainOk } := by
  have hend := setFreqCommon_end f mode step s
  generalize setFreqCommon f mode step s = t at hend
  cases hend with
  | refused hrange => exact absurd hf hrange
  | glided _ _ => rfl
  | retuned _ hidle _ => exact absurd hidle hlaw

/-- An operation that is `SetFreqCommon` takes the glide path where a law is active (R251). -/
theorem takesGlidePath_of_exec {i : Instr} {f step : Operand} {mode : StepMode} {s : State}
    (hexec : exec i s = .next (setFreqCommon (unsigned f) mode step s)) :
    TakesGlidePath i f s (withMode s mode (if mode = .direct then step else s.cfg.step)) := by
  intro hlaw hf
  rw [hexec, setFreqCommon_of_law hlaw hf]
  rfl

/-- Settles O29: the three operations are `SetFreqCommon`, each with its step mode and step. -/
theorem setFreqGlidePath : Obligations.SetFreqGlidePath := fun s f step =>
  have hfreq : exec (.setFreq f) s = .next (setFreqCommon (unsigned f) .resolve 0 s) := rfl
  have hgcd : exec (.setFreqGcd f) s = .next (setFreqCommon (unsigned f) .resolveGcd 0 s) := rfl
  have hstep : exec (.setFreqStep f step) s = .next (setFreqCommon (unsigned f) .direct step s) := rfl
  ⟨takesGlidePath_of_exec hfreq, takesGlidePath_of_exec hgcd, takesGlidePath_of_exec hstep⟩

/-- A lock-assist write keeps every bit of the image but the address field and the assist bit (R230). -/
theorem assistWord_getLsbD_of_outside (s : State) {k : Nat} (haddr : 3 ≤ k)
    (hbit : k ≠ s.par.lockAssistBit.val) :
    (assistWord s).getLsbD k = (s.readReg s.par.lockAssistReg).getLsbD k := by
  rw [assistWord, setField_getLsbD_of_outside _ _ _ (by omega), setField_getLsbD_of_outside _ _ _ (by omega)]

/-- Settles O34: the operation is `assistLock`, and its word differs from the image in two fields. -/
theorem lockAssistCommand : Obligations.LockAssistCommand := by
  intro s
  have hexec : exec .lockAssist s = .next (assistLock s) := rfl
  rw [hexec, assistLock_eq]
  exact ⟨rfl, assistWord_getLsbD s, address_assistWord s, wordIs_encode .lockAssist,
    fun k haddr hbit => assistWord_getLsbD_of_outside s haddr hbit⟩

theorem exec_tick (dt : Operand) (s : State) : exec (.tick dt) s = .next (tick dt s) := rfl

/-- Settles O40: an idle tick ends at step 1. -/
theorem idleTickDoesNothing : Obligations.IdleTickDoesNothing := by
  intro s dt
  refine ⟨wordIs_encode (.tick dt), fun hlaw => ?_⟩
  rw [exec_tick, tick, if_pos ((idle_iff s).mpr hlaw)]
  rfl

end Sys2Proof.Machine
end

section
/-! Steps 2 and 3 of a tick: the phase and the setpoint it derives (43_glide_tick.md R212 to R218). -/

namespace Sys2Proof.Machine

/-! ## The offsets of the waveform laws -/

/-- On naturals the linear ramp is a floor division (R214). -/
theorem rampOffset_eq (par : Params) (phase : Nat) (amplitude : Operand) :
    rampOffset par phase amplitude = ((phase * amplitude.toNat / par.tableLen : Nat) : Int) := by
  rw [← tdiv_natCast _ _ (tableLen_pos par), Int.natCast_mul]
  rfl

/-- A table index below `TABLE_LEN` has an entry, which `TableRead` answers (R71). -/
theorem getElem?_table_of_lt {par : Params} {i : Nat} (hi : i < par.tableLen) :
    par.table[i]? = some (tableRead par i) := by
  have hsome : par.table[i]? = some par.table[i] := List.getElem?_eq_getElem hi
  rw [tableRead, hsome]

/-- The spec's default triangle (R6, R216), for a period that R216 defines. -/
theorem triOffset_of_standard {par : Params} (htri : par.tri = .standard) (phase : Nat) {period : Operand}
    (hperiod : period ≠ 0) :
    triOffset par phase period
      = 2 * min ((phase % period.toNat : Nat) : Int) (unsigned period - (phase % period.toNat : Nat)) := by
  have hpos : 0 < period.toNat := Nat.pos_of_ne_zero fun h => hperiod (BitVec.eq_of_toNat_eq h)
  simp only [triOffset, htri, natMod_eq phase _ hpos]

theorem triOffset_of_other {par : Params} {id : Nat} (htri : par.tri = .other id) (phase : Nat)
    (period : Operand) : triOffset par phase period = Config.triOffset id phase period.toNat := by
  simp only [triOffset, htri]

/-! ## The derived setpoint -/

/-- The setpoint that step 3 gives (R213 to R217), the phase being advanced already. -/
def derivedSetpoint (s : State) : Int :=
  match s.g.waveLaw with
  | .none => s.g.setpoint
  | .ramp => s.g.base + rampOffset s.par s.g.phaseAcc s.g.waveParam
  | .sine => s.g.base + sineOffset s.par s.g.phaseAcc s.g.waveParam
  | .tri => s.g.base + triOffset s.par s.g.phaseAcc s.g.waveParam
  | .random => s.g.base + intoRange 0 (unsigned s.g.waveParam) s.nextDraw

@[simp] theorem hooked_self (g : Glide) : hooked g g.setpoint = g := by
  simp [hooked]

/-- Step 3 moves the setpoint through the hook (R213, R218). -/
theorem deriveSetpoint_g_eq (s : State) : (deriveSetpoint s).g = hooked s.g (derivedSetpoint s) := by
  unfold deriveSetpoint derivedSetpoint
  cases s.g.waveLaw with
  | none => exact (hooked_self s.g).symm
  | ramp | sine | tri | random => simp only [moveSetpoint_eq, rand_eq, setG_g]

/-- The glide group after steps 2 and 3 of a tick (R212 to R218). -/
def derivedGlide (s : State) : Glide :=
  { hooked s.g (derivedSetpoint (advancePhase s)) with
    phaseAcc := (s.g.phaseAcc + s.g.phaseStep.toNat) % s.par.tableLen }

/-- The glide group after steps 2 to 4: `current` follows the glide law from what steps 2 and 3 left. -/
theorem moveFrequency_g_eq (dt : Operand) (s : State) :
    (moveFrequency dt s).g
      = { derivedGlide s with current := glideTo s.par (derivedGlide s) dt } := by
  have hpar : (deriveSetpoint (advancePhase s)).par = s.par :=
    congrArg (·.par) (deriveSetpoint_frame (advancePhase s)).1
  have hg : (deriveSetpoint (advancePhase s)).g = derivedGlide s := by
    rw [deriveSetpoint_g_eq, derivedGlide, advancePhase_eq]
    rfl
  simp only [moveFrequency, advanceCurrent, setG_g, hpar, hg]

/-- What a tick leaves in the glide group, however steps 5 to 7 end: they write `locked` alone (R231). -/
theorem TickEnd.g_eq {dt : Operand} {s t : State} (h : TickEnd dt s t) (hlaw : ¬NoLaw s) :
    t.g = { (moveFrequency dt s).g with locked := t.g.locked } := by
  cases h with
  | idle hidle => exact absurd hidle hlaw
  | @retuned f m t r hm _ hr =>
    obtain ⟨draws, drawn, rfl⟩ := hm
    have ht : t.g = (moveFrequency dt s).g := hr.g_eq
    cases r <;> exact congrArg (fun g : Glide => { g with locked := false }) ht
  | assisted hm =>
    obtain ⟨draws, drawn, rfl⟩ := hm
    rw [assistLock_eq]
  | settled hm =>
    obtain ⟨draws, drawn, rfl⟩ := hm
    rfl

/-- A tick with a law active answers a next state, whose glide group steps 2 to 4 determine but for
`locked` (R210). -/
theorem exec_tick_g (dt : Operand) {s : State} (hlaw : ¬NoLaw s) :
    ∃ t, exec (.tick dt) s = .next t ∧ t.g = { derivedGlide s with
      current := glideTo s.par (derivedGlide s) dt, locked := t.g.locked } :=
  ⟨tick dt s, rfl, ((tick_end dt s).g_eq hlaw).trans (by rw [moveFrequency_g_eq])⟩

/-- Settles O41: `v` is the derived setpoint, one law at a time. -/
theorem tickDerivesSetpoint : Obligations.TickDerivesSetpoint := by
  intro s dt hlaw phase amp
  obtain ⟨t, hexec, hg⟩ := exec_tick_g dt hlaw
  have hphase : (advancePhase s).g.phaseAcc = phase := by rw [advancePhase_eq]; rfl
  have hlt : phase < s.par.tableLen := Nat.mod_lt _ (tableLen_pos s.par)
  refine ⟨t, derivedSetpoint (advancePhase s), hexec, ?group, ?none, ?ramp, ?sine, ?triStandard, ?triOther,
    ?random⟩
  case group => rw [hg]; rfl
  all_goals
    intro hwave
    have hwave' : (advancePhase s).g.waveLaw = s.g.waveLaw := rfl
    simp only [derivedSetpoint, hwave', hwave, hphase]
  case none => rfl
  case ramp => rw [rampOffset_eq]; rfl
  case sine => exact ⟨_, getElem?_table_of_lt hlt, rfl⟩
  case triStandard =>
    intro htri hperiod
    have hoff := triOffset_of_standard htri phase hperiod
    exact congrArg (s.g.base + ·) hoff
  case triOther =>
    intro id htri
    exact congrArg (s.g.base + ·) (triOffset_of_other htri phase s.g.waveParam)
  case random =>
    have hdraw : (advancePhase s).nextDraw = s.nextDraw := rfl
    have hbase : (advancePhase s).g.base = s.g.base := rfl
    have hparam : unsigned (advancePhase s).g.waveParam = amp := rfl
    rw [hdraw, hbase, hparam]
    have hmem := intoRange_mem 0 amp s.nextDraw (Int.natCast_nonneg _)
    exact ⟨by omega, by omega, fun hlo hhi => by rw [intoRange_self 0 amp _ hlo hhi]⟩

end Sys2Proof.Machine
end

section
/-! Step 4 of a tick: one advance of `current` under each glide law (43_glide_tick.md R219 to R223). -/

namespace Sys2Proof.Machine

section
variable {par : Params} {g : Glide}

/-- A stride shorter than the distance is taken (R222). -/
theorem linearGlide_of_lt
    (h : (tdiv (g.setpoint - g.glideStart) (unsigned g.glideParam)).natAbs < (g.setpoint - g.current).natAbs) :
    linearGlide g = g.current + tdiv (g.setpoint - g.glideStart) (unsigned g.glideParam) := if_pos h

/-- A stride that reaches the setpoint or passes it ends there (R222). -/
theorem linearGlide_of_le
    (h : (g.setpoint - g.current).natAbs ≤ (tdiv (g.setpoint - g.glideStart) (unsigned g.glideParam)).natAbs) :
    linearGlide g = g.setpoint := if_neg (Nat.not_lt.mpr h)

theorem constAdvance_eq (par : Params) (g : Glide) (dt : Operand) :
    constAdvance par g dt = max 1 ((g.constMag.toNat * dt.toNat / par.tickUnit : Nat) : Int) := by
  rw [← tdiv_natCast _ _ (units_pos par).1, Int.natCast_mul]
  rfl

/-- An advance that reaches the setpoint or passes it ends there (R223). -/
theorem constGlide_of_le {dt : Operand} (h : |g.setpoint - g.current| ≤ constAdvance par g dt) :
    constGlide par g dt = g.setpoint :=
  if_pos (by rwa [Int.natCast_natAbs])

/-- An advance shorter than the distance goes toward the setpoint (R223). -/
theorem constGlide_of_lt {dt : Operand} (h : constAdvance par g dt < |g.setpoint - g.current|) :
    constGlide par g dt = g.current + (g.setpoint - g.current).sign * constAdvance par g dt :=
  if_neg (by rwa [Int.natCast_natAbs, not_le])

theorem glideTo_of_none (h : g.glideLaw = .none) (dt : Operand) : glideTo par g dt = g.setpoint := by
  rw [glideTo, h]

theorem glideTo_of_exp (h : g.glideLaw = .exp) (dt : Operand) : glideTo par g dt = expGlide g := by
  rw [glideTo, h]

theorem glideTo_of_linear (h : g.glideLaw = .linear) (dt : Operand) : glideTo par g dt = linearGlide g := by
  rw [glideTo, h]

theorem glideTo_of_const (h : g.glideLaw = .const) (dt : Operand) :
    glideTo par g dt = constGlide par g dt := by
  rw [glideTo, h]

end

/-- Settles O42: `current` is `glideTo` of the derived glide group, one law at a time. -/
theorem tickAdvancesCurrent : Obligations.TickAdvancesCurrent := by
  intro s dt hlaw
  obtain ⟨t, hexec, hg⟩ := exec_tick_g dt hlaw
  have hcurrent : t.g.current = glideTo s.par (derivedGlide s) dt := by rw [hg]
  have hsetpoint : t.g.setpoint = (derivedGlide s).setpoint := by rw [hg]
  have hstart : t.g.glideStart = (derivedGlide s).glideStart := by rw [hg]
  have hmag : t.g.constMag = (derivedGlide s).constMag := by rw [hg]
  refine ⟨t, hexec, ?_⟩
  rw [hcurrent, hsetpoint, hstart, hmag]
  refine ⟨?none, ?exp, fun h => ?linear, fun h => ?const⟩
  case none => exact fun h => glideTo_of_none (g := derivedGlide s) h dt
  case exp => exact fun h => glideTo_of_exp (g := derivedGlide s) h dt
  case linear =>
    rw [glideTo_of_linear (g := derivedGlide s) h]
    exact ⟨fun hlt => linearGlide_of_lt (by zify; exact hlt),
      fun hle => linearGlide_of_le (by zify; exact hle)⟩
  case const =>
    rw [glideTo_of_const (g := derivedGlide s) h, ← constAdvance_eq]
    exact ⟨constGlide_of_le, constGlide_of_lt⟩

end Sys2Proof.Machine
end

section
/-! Steps 5 to 7 of a tick: the target, and the lock-assist write of a settled tick (43_glide_tick.md R227 to
R231). -/

namespace Sys2Proof.Machine

/-- The frame of steps 2 to 4 in the glide group: the dither amplitude and `locked` stay. -/
theorem moveFrequency_dither_locked (dt : Operand) (s : State) :
    (moveFrequency dt s).g.dither = s.g.dither ∧ (moveFrequency dt s).g.locked = s.g.locked := by
  rw [moveFrequency_g_eq]
  exact ⟨rfl, rfl⟩

/-- Steps 2 to 5 make at most two draws, one for the random law and one for the dither (R231). -/
theorem drawn_tickTarget_le (dt : Operand) (s : State) :
    (tickTarget (moveFrequency dt s)).2.env.drawn ≤ s.env.drawn + 2 := by
  have hone : ∀ {a b : Env}, b = a ∨ b = a.afterDraw → b.drawn ≤ a.drawn + 1 := by
    rintro a _ (rfl | rfl)
    · exact Nat.le_succ _
    · exact le_rfl
  have hmove := hone (moveFrequency_frame dt s).2
  have htarget := hone (tickTarget_frame (moveFrequency dt s)).2
  omega

theorem tickTarget_of_still {s : State} (h : s.g.dither = 0) : tickTarget s = (s.g.current, s) := by
  rw [tickTarget_eq, if_pos h]

theorem tickTarget_of_dithered {s : State} (h : s.g.dither ≠ 0) :
    tickTarget s = (s.g.current + intoRange (-unsigned s.g.dither) (unsigned s.g.dither) s.nextDraw,
      { s with env := s.env.afterDraw }) := by
  rw [tickTarget_eq, if_neg h]

/-- The dither moves the target by at most its amplitude (R227). -/
theorem abs_tickTarget_sub_le (s : State) : |(tickTarget s).1 - s.g.current| ≤ unsigned s.g.dither := by
  by_cases h : s.g.dither = 0
  · rw [tickTarget_of_still h, h, sub_self]
    rfl
  · have hpos : 0 ≤ unsigned s.g.dither := Int.natCast_nonneg _
    have hmem := intoRange_mem (-unsigned s.g.dither) (unsigned s.g.dither) s.nextDraw (by omega)
    rw [tickTarget_of_dithered h, add_sub_cancel_left, abs_le]
    exact hmem

/-- Settles O43: the frame is `moved_tickTarget`, the target `tickTarget_eq`. -/
theorem tickTargetIsCurrentPlusDither : Obligations.TickTargetIsCurrentPlusDither := by
  intro s dt moved r
  obtain ⟨draws, drawn, hr⟩ : Moved dt s r.2 := moved_tickTarget dt s
  have hdither : moved.g.dither = s.g.dither := (moveFrequency_dither_locked dt s).1
  have hbound := abs_tickTarget_sub_le moved
  refine ⟨?frame, congrArg (·.env.oks) hr, congrArg (·.env.asked) hr, drawn_tickTarget_le dt s, ?still,
    ?dithered, hdither ▸ hbound⟩
  case frame => rw [hr]
  case still =>
    intro h
    have hstill : r = (moved.g.current, moved) := tickTarget_of_still (hdither.trans h)
    rw [hstill]
    exact ⟨rfl, rfl⟩
  case dithered =>
    intro h
    have hdrawn := tickTarget_of_dithered (s := moved) (hdither ▸ h)
    refine ⟨congrArg (·.2.env) hdrawn, fun hlo hhi => ?_⟩
    rw [hdither, intoRange_self (-unsigned s.g.dither) (unsigned s.g.dither) _ hlo hhi] at hdrawn
    exact congrArg (·.1) hdrawn

theorem Moved.assistWord_eq {dt : Operand} {s m : State} (h : Moved dt s m) : assistWord m = assistWord s := by
  obtain ⟨_, _, rfl⟩ := h
  rfl

theorem Moved.par_eq {dt : Operand} {s m : State} (h : Moved dt s m) : m.par = s.par := by
  obtain ⟨_, _, rfl⟩ := h
  rfl

theorem Moved.locked_eq {dt : Operand} {s m : State} (h : Moved dt s m) : m.g.locked = s.g.locked := by
  obtain ⟨_, _, rfl⟩ := h
  exact (moveFrequency_dither_locked dt s).2

/-- A tick to the committed frequency writes lock-assist where `locked` is clear, and is done where it is
set (R229). -/
theorem exec_tick_of_settled {dt : Operand} {s : State} {r : Int × State}
    (hr : r = tickTarget (moveFrequency dt s)) (hlaw : ¬NoLaw s) {f : Nat} (hf : s.committed = some f)
    (htarget : (f : Int) = r.1) :
    exec (.tick dt) s = .next (if s.g.locked = false then assistLock r.2 else r.2.succeed) := by
  subst hr
  have hm := moved_tickTarget dt s
  rw [exec_tick, ← hm.locked_eq]
  rcases tick_cases dt s hlaw with ⟨hnew, -⟩ | ⟨-, hlocked, hend⟩ | ⟨-, hlocked, hend⟩
  · rw [settledOn_eq_false, hm.committed_eq] at hnew
    exact absurd htarget (hnew f hf)
  · rw [hend, if_pos hlocked]
  · rw [hend, hlocked, if_neg Bool.true_eq_false_eq_False]

/-- Settles O46: the write is the one of `assistLock`, whose word steps 2 to 5 do not change. -/
theorem tickLockAssistOncePerSettling : Obligations.TickLockAssistOncePerSettling := by
  intro s dt f hlaw r hf htarget
  have hm : Moved dt s r.2 := moved_tickTarget dt s
  rw [exec_tick_of_settled rfl hlaw hf htarget]
  refine ⟨fun hlocked => ?clear, fun hlocked => ?set⟩
  case clear => rw [if_pos hlocked, assistLock_eq, hm.assistWord_eq, hm.par_eq, hm.answer_eq]
  case set =>
    rw [if_neg (by simp [hlocked])]
    rfl

end Sys2Proof.Machine
end

section
/-! Runs of ticks under a glide law alone (43_glide_tick.md R221 to R223, R336, R337): the run is arithmetic on
one frequency, since no tick moves the setpoint. -/

namespace Sys2Proof.Machine

/-! ## From ticks to arithmetic -/

/-- `g` with `current` at `c`. -/
def atCurrent (g : Glide) (c : Int) : Glide := { g with current := c }

/-- `current` after ticks with these elapsed times, from `c` under the laws and the setpoint of `g`. -/
def currentAfter (par : Params) (g : Glide) : List Operand → Int → Int
  | [], c => c
  | dt :: rest, c => currentAfter par g rest (glideTo par (atCurrent g c) dt)

/-- `h` is `g` but for the phase, `current` and `locked`. -/
def SameGlide (g h : Glide) : Prop :=
  h = { g with phaseAcc := h.phaseAcc, current := h.current, locked := h.locked }

theorem SameGlide.glideTo_eq {g h : Glide} (hsame : SameGlide g h) (par : Params) (dt : Operand) :
    glideTo par h dt = glideTo par (atCurrent g h.current) dt := by
  rw [hsame]
  rfl

/-- Without a waveform law steps 2 and 3 advance the phase alone (R212, R213). -/
theorem derivedGlide_of_noWave {s : State} (hwave : s.g.waveLaw = .none) :
    derivedGlide s
      = { s.g with phaseAcc := (s.g.phaseAcc + s.g.phaseStep.toNat) % s.par.tableLen } := by
  have hv : derivedSetpoint (advancePhase s) = s.g.setpoint := by
    have hwave' : (advancePhase s).g.waveLaw = .none := hwave
    rw [derivedSetpoint, hwave']
    rfl
  rw [derivedGlide, hv, hooked_self]

/-- Under a glide law alone a tick moves `current` by that law and keeps the setpoint and the laws. -/
theorem exec_tick_of_noWave (dt : Operand) {s : State} (hwave : s.g.waveLaw = .none)
    (hglide : s.g.glideLaw ≠ .none) :
    ∃ t, exec (.tick dt) s = .next t ∧ SameGlide s.g t.g ∧ t.g.current = glideTo s.par s.g dt := by
  obtain ⟨t, hexec, hg⟩ := exec_tick_g dt fun hlaw : NoLaw s => hglide hlaw.1
  rw [derivedGlide_of_noWave hwave] at hg
  refine ⟨t, hexec, ?same, ?current⟩
  case same => rw [SameGlide, hg]
  case current => rw [hg]; rfl

/-- A run of ticks under a glide law alone iterates that law on `current`. -/
theorem afterTicks_current {g : Glide} (hwave : g.waveLaw = .none) (hglide : g.glideLaw ≠ .none)
    (dts : List Operand) (s : State) (hs : SameGlide g s.g) :
    ∃ t, afterTicks dts s = some t ∧ t.g.current = currentAfter s.par g dts s.g.current := by
  induction dts generalizing s with
  | nil => exact ⟨s, rfl, rfl⟩
  | cons dt rest ih =>
    have hwave' : s.g.waveLaw = .none := by rw [hs]; exact hwave
    have hglide' : s.g.glideLaw ≠ .none := by rw [hs]; exact hglide
    obtain ⟨t, hexec, hsame, hcurrent⟩ := exec_tick_of_noWave dt hwave' hglide'
    have ht : SameGlide g t.g := by rw [SameGlide, hsame, hs]
    obtain ⟨u, hu, hend⟩ := ih t ht
    have hpar : t.par = s.par := (exec_writesOnly hexec).par_eq
    refine ⟨u, by rw [afterTicks, hexec]; exact hu, ?_⟩
    rw [hend, hcurrent, hpar, hs.glideTo_eq]
    rfl

/-- The form the obligations take: the run starts from its own glide group. -/
theorem exists_afterTicks {s : State} (hwave : s.g.waveLaw = .none) (hglide : s.g.glideLaw ≠ .none)
    (dts : List Operand) :
    ∃ t, afterTicks dts s = some t ∧ t.g.current = currentAfter s.par s.g dts s.g.current :=
  afterTicks_current hwave hglide dts s rfl

/-- A dividend smaller than the divisor has the truncated quotient 0 (R8). -/
theorem tdiv_eq_zero_of_natAbs_lt {a : Int} {b : Nat} (h : a.natAbs < b) : tdiv a b = 0 := by
  rw [← Int.natAbs_eq_zero, tdiv_natAbs _ _ (by omega), Nat.div_eq_of_lt h]

/-! ## The linear law -/

section
variable {par : Params} {g : Glide}

/-- Where `glideTicks` divides the way, each tick does one share of it until all are done (R222). -/
theorem linearGlide_of_shares {q : Int} {n : Nat} (hpos : 0 < g.glideParam.toNat)
    (hway : g.setpoint = g.glideStart + g.glideParam.toNat * q)
    (hcurrent : g.current = g.glideStart + (min n g.glideParam.toNat : Nat) * q) :
    linearGlide g = g.glideStart + (min (n + 1) g.glideParam.toNat : Nat) * q := by
  have hstride : tdiv (g.setpoint - g.glideStart) (unsigned g.glideParam) = q := by
    rw [hway, add_sub_cancel_left, unsigned, tdiv_eq _ _ (by omega), Int.mul_tdiv_cancel_left _ (by omega)]
  have hdist : g.setpoint - g.current = (g.glideParam.toNat - min n g.glideParam.toNat : Nat) * q := by
    rw [hway, hcurrent, Nat.cast_sub (min_le_right _ _)]
    ring
  have hsize := congrArg Int.natAbs hdist
  rw [Int.natAbs_mul, Int.natAbs_natCast] at hsize
  rcases eq_or_ne q 0 with rfl | hq
  · rw [linearGlide_of_le (by simp [hsize]), hway, mul_zero, mul_zero]
  · rcases lt_or_ge (n + 1) g.glideParam.toNat with hmore | hlast
    · have hlt : q.natAbs < (g.setpoint - g.current).natAbs := by
        rw [hsize]
        exact lt_mul_of_one_lt_left (Int.natAbs_pos.mpr hq) (by omega)
      rw [linearGlide_of_lt (by rwa [hstride]), hstride, hcurrent, min_eq_left (by omega), min_eq_left hmore.le]
      push_cast
      ring
    · have hle : (g.setpoint - g.current).natAbs ≤ q.natAbs := by
        rw [hsize]
        exact mul_le_of_le_one_left (Nat.zero_le _) (by omega)
      rw [linearGlide_of_le (by rwa [hstride]), hway, min_eq_right hlast]

theorem currentAfter_cons_of_linear (hlaw : g.glideLaw = .linear) (dt : Operand) (rest : List Operand)
    (c : Int) :
    currentAfter par g (dt :: rest) c = currentAfter par g rest (linearGlide (atCurrent g c)) := by
  rw [currentAfter, glideTo_of_linear (g := atCurrent g c) hlaw]

/-- After `n` ticks `min n glideTicks` shares of the way are done. -/
theorem currentAfter_of_shares {q : Int} (hlaw : g.glideLaw = .linear) (hpos : 0 < g.glideParam.toNat)
    (hway : g.setpoint = g.glideStart + g.glideParam.toNat * q) (dts : List Operand) (n : Nat) :
    currentAfter par g dts (g.glideStart + (min n g.glideParam.toNat : Nat) * q)
      = g.glideStart + (min (n + dts.length) g.glideParam.toNat : Nat) * q := by
  induction dts generalizing n with
  | nil => rfl
  | cons dt rest ih =>
    have hshare : linearGlide (atCurrent g (g.glideStart + (min n g.glideParam.toNat : Nat) * q))
        = g.glideStart + (min (n + 1) g.glideParam.toNat : Nat) * q := linearGlide_of_shares hpos hway rfl
    rw [currentAfter_cons_of_linear hlaw, hshare, ih, List.length_cons, Nat.add_assoc, Nat.add_comm 1]

/-- Less than one hertz a tick is no stride at all (R337). -/
theorem linearGlide_of_short (hshort : (g.setpoint - g.glideStart).natAbs < g.glideParam.toNat) :
    linearGlide g = g.current := by
  have hstride : tdiv (g.setpoint - g.glideStart) (unsigned g.glideParam) = 0 :=
    tdiv_eq_zero_of_natAbs_lt hshort
  rcases Nat.eq_zero_or_pos (g.setpoint - g.current).natAbs with hzero | hpos
  · rw [linearGlide_of_le (by omega)]
    omega
  · rw [linearGlide_of_lt (by rwa [hstride]), hstride, add_zero]

theorem currentAfter_of_short (hlaw : g.glideLaw = .linear)
    (hshort : (g.setpoint - g.glideStart).natAbs < g.glideParam.toNat) (dts : List Operand) (c : Int) :
    currentAfter par g dts c = c := by
  induction dts with
  | nil => rfl
  | cons dt rest ih =>
    have hstall : linearGlide (atCurrent g c) = c := linearGlide_of_short hshort
    rw [currentAfter_cons_of_linear hlaw, hstall, ih]

end

/-- Settles O47: each tick does one share of the way until all are done. -/
theorem linearGlideTakesExactlyItsTicks : Obligations.LinearGlideTakesExactlyItsTicks := by
  intro s q dts hlaw hwave hpos hstart hway
  obtain ⟨t, hafter, hcurrent⟩ := exists_afterTicks hwave (by simp [hlaw]) dts
  have hshares := currentAfter_of_shares (par := s.par) hlaw hpos (hstart ▸ hway) dts 0
  simp only [Nat.zero_min, Nat.cast_zero, zero_mul, add_zero, Nat.zero_add, hstart] at hshares
  exact ⟨t, hafter, hcurrent.trans hshares⟩

/-- Settles O50: the truncated stride is 0 on every tick. -/
theorem linearGlideStallsOnShortDistance : Obligations.LinearGlideStallsOnShortDistance := by
  intro s dts hlaw hwave hshort
  obtain ⟨t, hafter, hcurrent⟩ := exists_afterTicks hwave (by simp [hlaw]) dts
  exact ⟨t, hafter, hcurrent.trans (currentAfter_of_short hlaw hshort dts _)⟩

/-! ## The constant-rate law -/

section
variable {par : Params} {g : Glide}

/-- One tick at a constant rate does not overshoot and comes at least 1 Hz nearer (R223). -/
theorem constGlide_approaches (par : Params) (g : Glide) (dt : Operand) :
    (min g.current g.setpoint ≤ constGlide par g dt ∧ constGlide par g dt ≤ max g.current g.setpoint) ∧
    (g.setpoint - constGlide par g dt).natAbs ≤ (g.setpoint - g.current).natAbs - 1 := by
  have hadv : 1 ≤ constAdvance par g dt := le_max_left _ _
  rcases le_or_gt |g.setpoint - g.current| (constAdvance par g dt) with hle | hlt
  · rw [constGlide_of_le hle]
    simp
  · rw [constGlide_of_lt hlt]
    generalize constAdvance par g dt = adv at hadv hlt
    rcases lt_trichotomy (g.setpoint - g.current) 0 with hneg | hzero | hpos
    · rw [abs_of_neg hneg] at hlt
      rw [Int.sign_eq_neg_one_of_neg hneg]
      omega
    · rw [hzero, abs_zero] at hlt
      omega
    · rw [abs_of_pos hpos] at hlt
      rw [Int.sign_eq_one_of_pos hpos]
      omega

/-- Each tick of a run takes at least 1 Hz off the distance (R223). -/
theorem natAbs_sub_currentAfter_le (hlaw : g.glideLaw = .const) (dts : List Operand) (c : Int) :
    (g.setpoint - currentAfter par g dts c).natAbs ≤ (g.setpoint - c).natAbs - dts.length := by
  induction dts generalizing c with
  | nil => exact le_rfl
  | cons dt rest ih =>
    have hnearer : (g.setpoint - constGlide par (atCurrent g c) dt).natAbs ≤ (g.setpoint - c).natAbs - 1 :=
      (constGlide_approaches par (atCurrent g c) dt).2
    have hrest := ih (constGlide par (atCurrent g c) dt)
    rw [currentAfter, glideTo_of_const (g := atCurrent g c) hlaw, List.length_cons]
    omega

end

/-- Settles O48: one tick is `constGlide_approaches`; a run as long as the distance leaves no distance. -/
theorem constantRateReachesSetpoint : Obligations.ConstantRateReachesSetpoint := by
  intro s hlaw hwave
  have hglide : s.g.glideLaw ≠ .none := by simp [hlaw]
  refine ⟨fun dt t hexec => ?tick, fun dts hlen => ?run⟩
  case tick =>
    obtain ⟨t', hexec', -, hcurrent⟩ := exec_tick_of_noWave dt hwave hglide
    obtain rfl := Host.Outcome.next.inj (hexec'.symm.trans hexec)
    rw [hcurrent, glideTo_of_const hlaw]
    exact constGlide_approaches s.par s.g dt
  case run =>
    obtain ⟨t, hafter, hcurrent⟩ := exists_afterTicks hwave hglide dts
    have hnear := natAbs_sub_currentAfter_le (par := s.par) hlaw dts s.g.current
    exact ⟨t, hafter, by omega⟩

/-! ## The exponential law -/

/-- Taking its truncated quotient off a distance shrinks it by that quotient and keeps its side (R8, R221). -/
theorem sub_tdiv (d : Int) {k : Nat} (hk : 0 < k) :
    (d - tdiv d k).natAbs = d.natAbs - d.natAbs / k ∧ (d - tdiv d k = 0 ∨ (d - tdiv d k).sign = d.sign) := by
  have hquot : tdiv d k = d.sign * (d.natAbs / k : Nat) := by
    rw [tdiv, if_neg (by omega), Int.sign_natCast_of_ne_zero hk.ne', mul_one, Int.natAbs_natCast]
  have hshrunk : d - tdiv d k = d.sign * (d.natAbs - d.natAbs / k : Nat) := by
    rw [hquot, Nat.cast_sub (Nat.div_le_self _ _), mul_sub, Int.sign_mul_natAbs]
  rcases eq_or_ne d 0 with rfl | hd
  · simp [hshrunk]
  · rw [hshrunk]
    refine ⟨by rw [Int.natAbs_mul, Int.natAbs_sign_of_ne_zero hd, one_mul, Int.natAbs_natCast], ?_⟩
    rcases Nat.eq_zero_or_pos (d.natAbs - d.natAbs / k) with hzero | hpos
    · exact .inl (by rw [hzero, Nat.cast_zero, mul_zero])
    · exact .inr (by rw [Int.sign_mul, Int.sign_sign, Int.sign_natCast_of_ne_zero hpos.ne', mul_one])

/-- Settles O49: the distance loses its truncated quotient, which is 0 below the constant. -/
theorem exponentialGlideStopsShort : Obligations.ExponentialGlideStopsShort := by
  intro s dt hlaw hwave hparam
  have hk : 0 < s.g.glideParam.toNat := Nat.pos_of_ne_zero fun h => hparam (BitVec.eq_of_toNat_eq h)
  obtain ⟨t, hexec, -, hcurrent⟩ := exec_tick_of_noWave dt hwave (by simp [hlaw])
  rw [glideTo_of_exp hlaw, expGlide, unsigned] at hcurrent
  refine ⟨t, hexec, ?_⟩
  rw [hcurrent, ← sub_sub]
  obtain ⟨hdist, hside⟩ := sub_tdiv (s.g.setpoint - s.g.current) hk
  refine ⟨hdist, hside, fun hshort => ?_⟩
  rw [tdiv_eq_zero_of_natAbs_lt hshort, add_zero]

end Sys2Proof.Machine
end

section
/-! The operations that store their operands, and the output keying: configuration, dither and phase step
(44_controller_ops.md R255 to R260, R271, R272), with operand `B` of their words (30_encoding.md R108). -/

namespace Sys2Proof.Machine

/-! ## Operand `B` where it shares its word with reserved bits -/

theorem toNat_operandB_setRef (ref : Operand) (rcount : BitVec 10) (doubler div2 : Bool) :
    (Instr.setRef ref rcount doubler div2).operandB.toNat
      = rcount.toNat + 2 ^ 10 * doubler.toNat + 2 ^ 11 * div2.toNat := by
  simp only [Instr.operandB, toNat_append_eq_add, BitVec.toNat_ofBool, BitVec.toNat_zero]
  ring

theorem toNat_operandB_setClocks (bscd : BitVec 8) (clkdiv : BitVec 12) :
    (Instr.setClocks bscd clkdiv).operandB.toNat = bscd.toNat + 2 ^ 8 * clkdiv.toNat := by
  simp only [Instr.operandB, toNat_append_eq_add, BitVec.toNat_zero]
  ring

/-- An operand alone in the low bits of `B` is the number `B` holds. -/
theorem toNat_zero_append {n : Nat} (m : Nat) (x : BitVec n) : (0#m ++ x).toNat = x.toNat := by
  rw [toNat_append_eq_add, BitVec.toNat_zero, zero_mul, zero_add]

theorem wordIs_setRef (ref : Operand) (rcount : BitVec 10) (doubler div2 : Bool) :
    wordIs (.setRef ref rcount doubler div2) 0x08 ref.toNat
      (rcount.toNat + 2 ^ 10 * doubler.toNat + 2 ^ 11 * div2.toNat) :=
  toNat_operandB_setRef ref rcount doubler div2 ▸ wordIs_encode (.setRef ref rcount doubler div2)

theorem wordIs_setClocks (bscd : BitVec 8) (clkdiv : BitVec 12) :
    wordIs (.setClocks bscd clkdiv) 0x09 0 (bscd.toNat + 2 ^ 8 * clkdiv.toNat) :=
  toNat_operandB_setClocks bscd clkdiv ▸ wordIs_encode (.setClocks bscd clkdiv)

theorem wordIs_setPower (power : BitVec 2) : wordIs (.setPower power) 0x0A 0 power.toNat :=
  toNat_zero_append 62 power ▸ wordIs_encode (.setPower power)

theorem wordIs_setPhase (phase : BitVec 12) : wordIs (.setPhase phase) 0x0B 0 phase.toNat :=
  toNat_zero_append 52 phase ▸ wordIs_encode (.setPhase phase)

theorem wordIs_getReg (i : BitVec 3) : wordIs (.getReg i) 0x20 0 i.toNat :=
  toNat_zero_append 61 i ▸ wordIs_encode (.getReg i)

theorem wordIs_getPlan (sel : BitVec 4) : wordIs (.getPlan sel) 0x21 0 sel.toNat :=
  toNat_zero_append 60 sel ▸ wordIs_encode (.getPlan sel)

/-! ## The configuration -/

/-- The configuration with the reference operands of a `SET_REF` (R255). -/
def withRef (c : Cfg) (ref : Operand) (rcount : BitVec 10) (doubler div2 : Bool) : Cfg :=
  { c with ref := ref, rcount := rcount, doubler := doubler, div2 := div2 }

section
variable {s : State} {ref : Operand} {rcount : BitVec 10} {doubler div2 : Bool}

/-- `SET_REF` is decided by step 4 of the engine on the reference it would store (R255, R154). -/
theorem exec_setRef_of_error {e : Failure}
    (h : phaseDetectorOf s.par (withRef s.cfg ref rcount doubler div2) = .error e) :
    exec (.setRef ref rcount doubler div2) s = .next { s with rsp := failure e } := by
  have hpd : phaseDetector s.par ref rcount doubler div2 = .error e := h
  simp only [exec, execSetRef, hpd]
  rfl

theorem exec_setRef_of_ok {pfd : Rat}
    (h : phaseDetectorOf s.par (withRef s.cfg ref rcount doubler div2) = .ok pfd) :
    exec (.setRef ref rcount doubler div2) s
      = .next { s with cfg := withRef s.cfg ref rcount doubler div2, rsp := plainOk } := by
  have hpd : phaseDetector s.par ref rcount doubler div2 = .ok pfd := h
  simp only [exec, execSetRef, hpd]
  rfl

end

/-- Settles O31: the three cases are those of step 4 of the engine, `phaseDetectorRangeCheck`. -/
theorem setRefStoresOnlyValidReferences : Obligations.SetRefStoresOnlyValidReferences := by
  intro s ref rcount doubler div2 pfd
  obtain ⟨hzero, hout, hin⟩ := phaseDetectorRangeCheck s.par (withRef s.cfg ref rcount doubler div2)
  exact ⟨wordIs_setRef ref rcount doubler div2, fun h0 => exec_setRef_of_error (hzero h0),
    fun hne hbad => exec_setRef_of_error (hout hne hbad),
    fun hne hmin hmax => exec_setRef_of_ok (hin hne hmin hmax)⟩

/-- Settles O32: each operation is one update of the configuration. -/
theorem clocksPowerPhaseStoreOperands : Obligations.ClocksPowerPhaseStoreOperands :=
  fun _ bscd clkdiv power phase =>
    ⟨rfl, rfl, rfl, wordIs_setClocks bscd clkdiv, wordIs_setPower power, wordIs_setPhase phase⟩

/-- Settles O37: each operation is one update of the glide group. -/
theorem ditherAndPhaseStepStoreOperands : Obligations.DitherAndPhaseStepStoreOperands := fun _ v =>
  ⟨rfl, rfl, wordIs_encode (.setDither v), wordIs_encode (.setPhaseStep v)⟩

/-- Settles O33: the two operations are `keyOutput`, whose one write is `keyOutput_eq`. -/
theorem outputKeyingWritesRegisterFour : Obligations.OutputKeyingWritesRegisterFour := fun s =>
  ⟨congrArg Host.Outcome.next (keyOutput_eq 1 s), congrArg Host.Outcome.next (keyOutput_eq 0 s),
    wordIs_encode .enableOut, wordIs_encode .disableOut⟩

end Sys2Proof.Machine
end

section
/-! Selecting a glide law or a waveform law (44_controller_ops.md R262 to R270). -/

namespace Sys2Proof.Machine

/-! ## The glide laws -/

/-- The truncated quotient is what `g.const_mag` holds wherever it fits (R218, R265; log 9). -/
theorem toNat_rateMagnitude {setpoint current : Int} {n : Operand} (hn : n ≠ 0)
    (hfit : (setpoint - current).natAbs / n.toNat < 2 ^ 64) :
    (rateMagnitude setpoint current n).toNat = (setpoint - current).natAbs / n.toNat := by
  have hpos : 0 < n.toNat := Nat.pos_of_ne_zero fun h => hn (BitVec.eq_of_toNat_eq h)
  rw [rateMagnitude, unsigned, tdiv_natCast _ _ hpos, storeMagnitude,
    if_pos ⟨Int.natCast_nonneg _, by exact_mod_cast hfit⟩, BitVec.ofInt_natCast, BitVec.toNat_ofNat,
    Nat.mod_eq_of_lt hfit]

theorem glideNone_eq (s : State) :
    glideNone s = { s with
      g := { s.g with glideLaw := .none, glideParam := 0, constMag := 0, glideStart := s.g.current }
      rsp := plainOk } := rfl

/-- Settles O35: the three laws are `GLIDE_OFF` on a zero parameter and `selectGlide` on any other. -/
theorem glideLawSelection : Obligations.GlideLawSelection := by
  intro s n off
  have hlinear : exec (.glideLinear n) s
      = .next (if n = 0 then glideNone s else selectGlide .linear n 0 s) := rfl
  have hexp : exec (.glideExp n) s = .next (if n = 0 then glideNone s else selectGlide .exp n 0 s) := rfl
  have hconst : exec (.glideConst n) s = .next (if n = 0 then glideNone s
      else selectGlide .const n (rateMagnitude s.g.setpoint s.g.current n) s) := rfl
  rw [hlinear, hexp, hconst]
  refine ⟨⟨wordIs_encode .glideOff, wordIs_encode (.glideLinear n), wordIs_encode (.glideExp n),
    wordIs_encode (.glideConst n)⟩, rfl, fun h0 => ?_, fun hne => ?_⟩
  · rw [if_pos h0, if_pos h0, if_pos h0, glideNone_eq]
    exact ⟨rfl, rfl, rfl⟩
  · rw [if_neg hne, if_neg hne, if_neg hne]
    exact ⟨rfl, rfl, rateMagnitude s.g.setpoint s.g.current n, rfl, toNat_rateMagnitude hne⟩

/-! ## The waveform laws -/

theorem waveOrNone_of_zero (law : WaveLaw) {a : Operand} (h : a = 0) (s : State) :
    waveOrNone law a s = waveNone s :=
  if_pos h

/-- Selecting a waveform law leaves the setpoint to the next tick (R267). -/
theorem waveOrNone_of_ne (law : WaveLaw) {a : Operand} (h : a ≠ 0) (s : State) :
    waveOrNone law a s = { s with g := { s.g with waveLaw := law, waveParam := a }, rsp := plainOk } :=
  if_neg h

/-- Settles O36: the four laws are `waveOrNone`, and `waveNone_eq` is what `WAVE_OFF` leaves. -/
theorem waveLawSelection : Obligations.WaveLawSelection := by
  intro s a off
  have hlaw : exec (.waveRamp a) s = .next (waveOrNone .ramp a s) ∧
      exec (.waveSine a) s = .next (waveOrNone .sine a s) ∧
      exec (.waveTri a) s = .next (waveOrNone .tri a s) ∧
      exec (.waveRandom a) s = .next (waveOrNone .random a s) := ⟨rfl, rfl, rfl, rfl⟩
  have hoff : waveNone s = off := waveNone_eq s
  refine ⟨⟨wordIs_encode .waveOff, wordIs_encode (.waveRamp a), wordIs_encode (.waveSine a),
    wordIs_encode (.waveTri a), wordIs_encode (.waveRandom a)⟩, congrArg Host.Outcome.next hoff,
    fun h0 => ?_, fun hne => ?_⟩
  · simpa only [waveOrNone_of_zero _ h0, hoff] using hlaw
  · simpa only [waveOrNone_of_ne _ hne] using hlaw

end Sys2Proof.Machine
end

section
/-! The queries `GET_REG` and `GET_PLAN` (44_controller_ops.md R273, R274). -/

namespace Sys2Proof.Machine

/-! ## `GET_REG` -/

theorem regSelector_of_eq {i : BitVec 3} {r : RegIdx} (h : i.toNat = r.val) : regSelector i = some r := by
  rw [regSelector, dif_pos (h ▸ r.isLt)]
  exact congrArg some (Fin.ext h)

theorem regSelector_of_gt {i : BitVec 3} (h : 5 < i.toNat) : regSelector i = none :=
  dif_neg (by omega)

/-- Settles O38: the selector names an image for 0 to 5 and nothing above. -/
theorem getRegReadsImages : Obligations.GetRegReadsImages := by
  intro s i
  refine ⟨fun r hr => ?_, fun hgt => ?_, wordIs_getReg i⟩
  · simp only [exec, execGetReg, regSelector_of_eq hr]
    rfl
  · simp only [exec, execGetReg, regSelector_of_gt hgt]
    rfl

/-! ## `GET_PLAN` -/

/-- The selectors of R274 with the field each names. -/
def planRows (p : Plan) : List (Nat × Int) :=
  [(0, p.nint), (1, p.frac), (2, p.mod), (3, p.rfdivsel), (4, p.div), (5, p.presc.toNat),
    (6, p.pfd.num), (7, p.pfd.den), (8, p.achieved.num), (9, p.achieved.den),
    (10, p.mismatch.toNat), (11, p.step)]

/-- A row of R274 is legal and is what `planField` reads. -/
theorem planField_of_mem {p : Plan} {sel : BitVec 4} {nv : Nat × Int} (hrow : nv ∈ planRows p)
    (hsel : sel.toNat = nv.1) : sel.toNat ≤ 11 ∧ planField p sel = some nv.2 := by
  simp only [planRows, List.mem_cons, List.not_mem_nil, or_false] at hrow
  rcases hrow with rfl | rfl | rfl | rfl | rfl | rfl | rfl | rfl | rfl | rfl | rfl | rfl <;>
    simp [planField, hsel]

/-- A 64-bit datum holds an integer modulo `2^64` (R112). -/
theorem toNat_ofInt_eq_emod (v : Int) : ((BitVec.ofInt 64 v).toNat : Int) = v % 2 ^ 64 := by
  rw [BitVec.toNat_ofInt, Int.toNat_of_nonneg (Int.emod_nonneg v (by decide))]
  rfl

section
variable {s : State} {sel : BitVec 4}

theorem planSelectorLegal_of_le (h : sel.toNat ≤ 11) : planSelectorLegal sel = true :=
  decide_eq_true h

/-- The selector is checked before the plan register is read (R111, R296). -/
theorem exec_getPlan_of_gt (h : 11 < sel.toNat) :
    exec (.getPlan sel) s = .next (s.failWith .badCommand) := by
  have hillegal : planSelectorLegal sel = false := decide_eq_false (by omega)
  simp only [exec, execGetPlan, hillegal, if_true]

theorem exec_getPlan_of_none (h : sel.toNat ≤ 11) (hplan : s.plan = .none) :
    exec (.getPlan sel) s = .next (s.failWith .noPlan) := by
  simp only [exec, execGetPlan, planSelectorLegal_of_le h, Bool.true_eq_false, if_false, hplan]

theorem exec_getPlan_of_failed (h : sel.toNat ≤ 11) {e : Failure} (hplan : s.plan = .failed e) :
    exec (.getPlan sel) s = .next (s.failWith e) := by
  simp only [exec, execGetPlan, planSelectorLegal_of_le h, Bool.true_eq_false, if_false, hplan]

theorem exec_getPlan_of_ok (h : sel.toNat ≤ 11) {p : Plan} (hplan : s.plan = .ok p) {v : Int}
    (hfield : planField p sel = some v) :
    exec (.getPlan sel) s = .next (s.succeed false (BitVec.ofInt 64 v)) := by
  simp only [exec, execGetPlan, planSelectorLegal_of_le h, Bool.true_eq_false, if_false, hplan, hfield]

end

/-- Settles O39: an illegal selector, then the three cases of the plan register; a field is the row of R274
that its selector names. -/
theorem getPlanReadsResult : Obligations.GetPlanReadsResult := by
  intro s sel
  refine ⟨wordIs_getPlan sel, exec_getPlan_of_gt, exec_getPlan_of_none,
    fun h _ hplan => exec_getPlan_of_failed h hplan, fun p hplan nv hrow hsel => ?_⟩
  obtain ⟨hle, hfield⟩ := planField_of_mem (p := p) hrow hsel
  exact ⟨_, exec_getPlan_of_ok hle hplan hfield, rfl, rfl, rfl, toNat_ofInt_eq_emod nv.2⟩

end Sys2Proof.Machine
end

section
/-! Which operation can end with which failure (60_exceptions.md R291), and that none stops the machine
(R294). -/

namespace Sys2Proof.Machine

/-! ## The failures of an operation (R291) -/

/-- If the operation `i` that left `t` failed, its failure is one that R291 lists for `i`. -/
def FailsAsListed (i : Instr) (t : State) : Prop :=
  ∀ e, t.rsp.status = .failed e → canEndWith i t.cfg.stepMode e = true

section
variable {i : Instr} {t : State}

theorem failsAsListed_of_ok (h : t.rsp.status = .ok) : FailsAsListed i t := fun e he => by
  rw [h] at he
  cases he

theorem failsAsListed_of_failed {e : Failure} (h : t.rsp.status = .failed e)
    (hlisted : canEndWith i t.cfg.stepMode e = true) : FailsAsListed i t := fun e' he => by
  obtain rfl := Status.failed.inj (h.symm.trans he)
  exact hlisted

/-- A response that is one transport answer fails, if at all, with `ERR_TRANSPORT` (R259 to R261). -/
theorem failsAsListed_of_writeResponse {ok : Bool} (h : t.rsp = writeResponse ok)
    (hwrites : canWriteRegs i = true) : FailsAsListed i t := by
  cases ok with
  | true => exact failsAsListed_of_ok (by rw [h]; rfl)
  | false => exact failsAsListed_of_failed (e := .transport) (by rw [h]; rfl) hwrites

end

theorem canEndWith_freqRange {i : Instr} (hi : canRetune i = true) (mode : StepMode) :
    canEndWith i mode .freqRange = true := by
  simp only [canEndWith, hi, Bool.true_or]

theorem canEndWith_badCommand {i : Instr} (hi : i.wellFormed = false) (mode : StepMode) :
    canEndWith i mode .badCommand = true := by
  simp only [canEndWith, hi, Bool.not_false]

/-- A reason for finding no plan is listed for the operations that retune, in the step mode it was found
in (R197, R198). -/
theorem canEndWith_of_retunePlan_error {i : Instr} {par : Params} {c : Cfg} {f : Int} {e : Failure}
    (hi : canRetune i = true) (h : retunePlan par c f = .error e) : canEndWith i c.stepMode e = true := by
  rcases retunePlan_error h with rfl | rfl | ⟨hsearch, rfl⟩ | ⟨hdirect, rfl | rfl | rfl⟩
  · exact canEndWith_freqRange hi _
  · simp only [canEndWith, hi, Bool.true_or]
  · simp only [canEndWith, hi, decide_eq_true hsearch, Bool.and_self, Bool.true_or]
  all_goals simp only [canEndWith, hi, decide_eq_true hdirect, Bool.and_self, Bool.true_or]

/-- The operations that retune are among those that write (R40). -/
theorem canWriteRegs_of_canRetune {i : Instr} (h : canRetune i = true) : canWriteRegs i = true := by
  cases i
  case tick | setFreq | setFreqGcd | setFreqStep => rfl
  all_goals exact nomatch h

/-- The failure of a `Retune` is listed: it found no plan, or it lost a write (R197, R293). -/
theorem RetuneEnd.canEndWith_of_error {f : Int} {s t : State} {e : Failure} {i : Instr}
    (hi : canRetune i = true) (h : RetuneEnd f s (.error e) t) : canEndWith i t.cfg.stepMode e = true := by
  cases h with
  | unplanned hplan => exact canEndWith_of_retunePlan_error hi hplan
  | lost _ _ _ _ => exact canWriteRegs_of_canRetune hi

theorem SetFreqEnd.failsAsListed {f : Int} {s s1 t : State} {i : Instr} (hi : canRetune i = true)
    (h : SetFreqEnd f s s1 t) : FailsAsListed i t := by
  cases h with
  | refused _ =>
    exact failsAsListed_of_failed (e := .freqRange) rfl (canEndWith_freqRange hi _)
  | glided _ _ => exact failsAsListed_of_ok rfl
  | @retuned r t _ _ hr =>
    cases r with
    | ok m => exact failsAsListed_of_ok rfl
    | error e =>
      have hlisted := hr.canEndWith_of_error hi
      exact failsAsListed_of_failed (e := e) rfl hlisted

theorem TickEnd.failsAsListed {dt : Operand} {s t : State} (h : TickEnd dt s t) :
    FailsAsListed (.tick dt) t := by
  cases h with
  | idle _ => exact failsAsListed_of_ok rfl
  | @retuned f m t r _ _ hr =>
    cases r with
    | ok b => exact failsAsListed_of_ok rfl
    | error e =>
      have hlisted := hr.canEndWith_of_error (i := .tick dt) rfl
      exact failsAsListed_of_failed (e := e) rfl hlisted
  | assisted _ =>
    rw [assistLock_eq]
    exact failsAsListed_of_writeResponse rfl rfl
  | settled _ => exact failsAsListed_of_ok rfl

theorem execSetRef_failsAsListed {ref : Operand} {rcount : BitVec 10} {doubler div2 : Bool} {s t : State}
    (h : exec (.setRef ref rcount doubler div2) s = .next t) :
    FailsAsListed (.setRef ref rcount doubler div2) t := by
  cases hpd : phaseDetectorOf s.par (withRef s.cfg ref rcount doubler div2) with
  | error e =>
    obtain rfl := phaseDetector_error hpd
    obtain rfl := Host.Outcome.next.inj ((exec_setRef_of_error hpd).symm.trans h)
    exact failsAsListed_of_failed (e := .pfdRange) rfl rfl
  | ok pfd =>
    obtain rfl := Host.Outcome.next.inj ((exec_setRef_of_ok hpd).symm.trans h)
    exact failsAsListed_of_ok rfl

theorem execGetReg_failsAsListed {r : BitVec 3} {s t : State} (h : exec (.getReg r) s = .next t) :
    FailsAsListed (.getReg r) t := by
  obtain ⟨himage, hrefused, -⟩ := getRegReadsImages s r
  by_cases hr : 5 < r.toNat
  · obtain rfl := Host.Outcome.next.inj ((hrefused hr).symm.trans h)
    have hillegal : (Instr.getReg r).wellFormed = false := decide_eq_false (by omega)
    exact failsAsListed_of_failed (e := .badCommand) rfl (canEndWith_badCommand hillegal _)
  · have hlt : r.toNat < 6 := by omega
    obtain rfl := Host.Outcome.next.inj ((himage ⟨r.toNat, hlt⟩ rfl).symm.trans h)
    exact failsAsListed_of_ok rfl

/-- Every legal selector names a field (R274). -/
theorem planField_of_le (p : Plan) {sel : BitVec 4} (h : sel.toNat ≤ 11) :
    ∃ v, planField p sel = some v := by
  unfold planField
  split
  case h_13 =>
    simp only [imp_false] at *
    omega
  all_goals exact ⟨_, rfl⟩

/-- What a `Retune` records in `plan` is listed for `GET_PLAN` (R39, R291). -/
theorem canEndWith_getPlan_of_recorded {e : Failure} (h : e.recorded = true) (sel : BitVec 4)
    (mode : StepMode) : canEndWith (.getPlan sel) mode e = true := by
  cases e
  case transport | badCommand | noPlan => exact nomatch h
  all_goals rfl

/-- `GET_PLAN` answers the recorded reason, which the invariant bounds (R39, R274). -/
theorem execGetPlan_failsAsListed {sel : BitVec 4} {s t : State} (hinv : s.Inv)
    (h : exec (.getPlan sel) s = .next t) : FailsAsListed (.getPlan sel) t := by
  by_cases hsel : sel.toNat ≤ 11
  · cases hplan : s.plan with
    | none =>
      obtain rfl := Host.Outcome.next.inj ((exec_getPlan_of_none hsel hplan).symm.trans h)
      exact failsAsListed_of_failed (e := .noPlan) rfl rfl
    | failed e =>
      obtain rfl := Host.Outcome.next.inj ((exec_getPlan_of_failed hsel hplan).symm.trans h)
      exact failsAsListed_of_failed (e := e) rfl
        (canEndWith_getPlan_of_recorded (hinv.planFailed e hplan) sel _)
    | ok p =>
      obtain ⟨v, hfield⟩ := planField_of_le p hsel
      obtain rfl := Host.Outcome.next.inj ((exec_getPlan_of_ok hsel hplan hfield).symm.trans h)
      exact failsAsListed_of_ok rfl
  · obtain rfl := Host.Outcome.next.inj ((exec_getPlan_of_gt (by omega)).symm.trans h)
    have hillegal : (Instr.getPlan sel).wellFormed = false := decide_eq_false hsel
    exact failsAsListed_of_failed (e := .badCommand) rfl (canEndWith_badCommand hillegal _)

/-- Settles O54: a failure comes from a `Retune`, a lost write, the check of `SET_REF` or a query; every
other operation ends with `OK`. -/
theorem failureCodesByOperation : Obligations.FailureCodesByOperation := by
  intro i s t e hinv h
  suffices hlisted : FailsAsListed i t from hlisted e
  cases i with
  | tick dt =>
    obtain rfl := Host.Outcome.next.inj h
    exact (tick_end dt s).failsAsListed
  | setFreq _ | setFreqGcd _ | setFreqStep _ _ =>
    obtain rfl := Host.Outcome.next.inj h
    exact (setFreqCommon_end _ _ _ s).failsAsListed rfl
  | setRef _ _ _ _ => exact execSetRef_failsAsListed h
  | enableOut | disableOut =>
    obtain rfl := Host.Outcome.next.inj h
    rw [keyOutput_eq]
    exact failsAsListed_of_writeResponse rfl rfl
  | lockAssist =>
    obtain rfl := Host.Outcome.next.inj h
    rw [assistLock_eq]
    exact failsAsListed_of_writeResponse rfl rfl
  | glideLinear _ | glideExp _ | glideConst _ =>
    obtain rfl := Host.Outcome.next.inj h
    split <;> exact failsAsListed_of_ok rfl
  | waveOff =>
    obtain rfl := Host.Outcome.next.inj h
    rw [waveNone_eq]
    exact failsAsListed_of_ok rfl
  | waveRamp _ | waveSine _ | waveTri _ | waveRandom _ =>
    obtain rfl := Host.Outcome.next.inj h
    exact failsAsListed_of_ok (congrArg (·.status) (waveOrNone_rsp _ _ s))
  | getReg _ => exact execGetReg_failsAsListed h
  | getPlan _ => exact execGetPlan_failsAsListed hinv h
  | setClocks _ _ | setPower _ | setPhase _ | glideOff | setDither _ | setPhaseStep _ =>
    obtain rfl := Host.Outcome.next.inj h
    exact failsAsListed_of_ok rfl

/-! ## No failure is fatal (R294) -/

/-- Every operation answers a next state, whether or not it fails: each arm is a `.next`. -/
theorem exec_answers_next (i : Instr) (s : State) : ∃ t, exec i s = .next t := by
  cases i <;> exact ⟨_, rfl⟩

/-- With nothing presented the CORE waits (R320; log 1). -/
theorem step_of_events_nil {s : State} (hq : s.env.events = []) : step s = .next s := by
  have hwait : s.nextEvent = none := by rw [State.nextEvent, hq]
  simp only [step, hwait]

/-- A presented reset event resets the machine (R320). -/
theorem step_of_reset {s : State} {rest : List EnvEvent} (hq : s.env.events = .reset :: rest) :
    step s = .next (popped s rest).applyReset := by
  simp only [step, nextEvent_of_events_cons hq]

/-- Settles O60: the machine waits, resets, runs an operation or refuses a word, and each answers a next
state. -/
theorem nothingIsFatal : Obligations.NothingIsFatal := by
  intro s
  rcases hq : s.env.events with _ | ⟨w | _, rest⟩
  case nil => exact ⟨s, step_of_events_nil hq⟩
  case cons.command =>
    cases hd : decode w with
    | ok i =>
      rw [step_of_decode_ok hq hd]
      exact exec_answers_next i (popped s rest)
    | error b => exact ⟨_, step_of_decode_error hq hd⟩
  case cons.reset => exact ⟨_, step_of_reset hq⟩

end Sys2Proof.Machine
end

section
/-! The two answers of a step that run no operation: waiting with nothing presented, and the reset
event (R320, R321). -/

namespace Sys2Proof.Machine

/-- Settles O5: with an empty queue the environment has no next event, and the CORE waits. -/
theorem stepWaitsWithNothingPresented : Obligations.StepWaitsWithNothingPresented :=
  fun _ hq => step_of_events_nil hq

/-- A reset after an event is taken from the queue: R38's values, with the parameters kept and of the
environment only the queue shortened (log 19). -/
theorem applyReset_popped (s : State) (rest : List EnvEvent) :
    (popped s rest).applyReset =
      { State.reset with par := s.par, env := { s.env with events := rest } } := rfl

/-- Settles O6: the step takes the event from the queue and resets. -/
theorem resetEventRestoresResetState : Obligations.ResetEventRestoresResetState := by
  intro s rest hq
  rw [step_of_reset hq, applyReset_popped]

end Sys2Proof.Machine
end
